-- ==== Sys2Proof/Word.lean ====
section
/-! DEFINITION. The words of the block: widths named once (00_scope.md R14, R15, R19). -/

namespace Sys2Proof

/-- A register half, a KRAM word, a raw palette entry: 16 bits. -/
abbrev Word := BitVec 16

/-- A byte of the bus or of a KRAM word. -/
abbrev Byte := BitVec 8

/-- A KRAM word index inside one bank (20_memory.md R109). -/
abbrev KAddr := BitVec 18

/-- A YUV24 colour: Y in [23:16], U in [15:8], V in [7:0] (00_scope.md R19). -/
abbrev Yuv24 := BitVec 24

/-- An output pixel: R in [23:16], G in [15:8], B in [7:0] (43_palette_yuv.md R416). -/
abbrev Rgb24 := BitVec 24

/-- The decode key K of a request (30_encoding.md R141). -/
abbrev Key := BitVec 24

end Sys2Proof
end

