-- ==== Sys2Proof/Machine/Data.lean ====
section
/-! DEFINITION. The data the block's state, its requests and its calls are made of: plain records and names,
one record per group of 10_state.md. -/

namespace Sys2Proof

/-- The four horizontal phases, in their fixed cyclic order (10_state.md R40, 42_timing_scheduler.md R363). -/
inductive Phase where
  | active
  | part1
  | part3
  | part4
  deriving DecidableEq, Repr, Inhabited

/-- A playback channel (30_encoding.md R140). -/
inductive Channel where
  | ch0
  | ch1
  deriving DecidableEq, Repr, Inhabited

/-- The seven layers, in the fixed hardware order of 44_compositor.md R442. -/
inductive Layer where
  | bg0
  | bg1
  | bg2
  | bg3
  | ovl
  | vdcBg
  | vdcSpr
  deriving DecidableEq, Repr, Inhabited

/-- Which of the two tile-chip outputs an entry comes from (44_compositor.md R441). -/
inductive TileLayer where
  | vdcBg
  | vdcSpr
  deriving DecidableEq, Repr, Inhabited

/-- An entry of TBUF: `TRANSPARENT` or `TILE(k, v)` (44_compositor.md R441). -/
inductive TileEntry where
  | transparent
  | tile (k : TileLayer) (v : Byte)
  deriving DecidableEq, Repr, Inhabited

/-- An entry of BGROWS or OBUF: `TRANSPARENT`, `IDX(v)` or `DIRECT(y)` (44_compositor.md R441). -/
inductive PixEntry where
  | transparent
  | idx (v : Byte)
  | direct (y : Yuv24)
  deriving DecidableEq, Repr, Inhabited

/-- The four background rows (10_state.md R73). -/
structure BgRows where
  bg0 : List PixEntry
  bg1 : List PixEntry
  bg2 : List PixEntry
  bg3 : List PixEntry
  deriving DecidableEq, Repr, Inhabited

/-- The controller registers that a latch copies: exactly the fields of RC (10_state.md R45) but RC.LINE.
The live registers of R33, R36, R37 and R38 are one such record, the render cache's copy another. -/
structure PicRegs where
  pmode : Word
  palofs0 : Word
  palofs1 : Word
  palofs2 : Word
  palofs3 : Word
  prio0 : Word
  prio1 : Word
  keyy : Word
  keyu : Word
  keyv : Word
  fixcol : Word
  celctl : Word
  sprmask : Word
  coef0 : BitVec 12
  coef1 : BitVec 12
  coef2 : BitVec 12
  coef3 : BitVec 12
  coef4 : BitVec 12
  coef5 : BitVec 12
  deriving DecidableEq, Repr, Inhabited

/-- The raw palette, its cursor and its read latch (10_state.md R34). -/
structure Palette where
  pal : Vector Word 512
  cur : BitVec 9
  latch : Word
  deriving DecidableEq, Repr

/-- Raster, horizontal state machine, divider and the scheduler's counters
(10_state.md R39 to R42, R70, R72). -/
structure Timing where
  raster : BitVec 9
  hphase : Phase
  hcnt : Nat
  odd : Bool
  divrem : Nat
  hscnt : Nat
  now : Nat
  deriving DecidableEq, Repr, Inhabited

/-- The stored fields of the render cache (10_state.md R45). -/
structure RenderCache where
  pic : PicRegs
  line : BitVec 9
  deriving DecidableEq, Repr, Inhabited

/-- The resolved rank of each layer, 0 = disabled (44_compositor.md R443). -/
structure Ranks where
  bg0 : Nat
  bg1 : Nat
  bg2 : Nat
  bg3 : Nat
  ovl : Nat
  vdcBg : Nat
  vdcSpr : Nat
  deriving DecidableEq, Repr, Inhabited

/-- The derived parts of the render cache (10_state.md R46). -/
structure RenderDerived where
  pcache : Vector Yuv24 1024
  rank : Ranks
  deriving DecidableEq, Repr

/-- The SCSI latches and handshake flags (10_state.md R51). -/
structure Scsi where
  sout : Byte
  scmd : Byte
  smode : Byte
  sphase : Byte
  scache : Byte
  drq : Bool
  recvAct : Bool
  sendAct : Bool
  hsAck : Bool
  deriving DecidableEq, Repr, Inhabited

/-- The DMA registers and the packing flip-flop (10_state.md R52). -/
structure Dma where
  addr : KAddr
  size : BitVec 24
  ctl : Word
  ff : Bool
  lo : Byte
  deriving DecidableEq, Repr, Inhabited

/-- The playback (ADPCM) bookkeeping (10_state.md R53). -/
structure Playback where
  ctl : Word
  play0 : KAddr
  play1 : KAddr
  end0 : KAddr
  end1 : KAddr
  inter0 : KAddr
  inter1 : KAddr
  flags : BitVec 4
  deriving DecidableEq, Repr, Inhabited

/-- The overlay transfer registers and the raster interrupt line (10_state.md R54). -/
structure Overlay where
  ctl : Word
  addr : KAddr
  blocks : Word
  rirqLine : BitVec 9
  deriving DecidableEq, Repr, Inhabited

/-- The stored pending interrupt flags (10_state.md R55). -/
structure Pending where
  dma : Bool
  phase : Bool
  subch : Bool
  raster : Bool
  deriving DecidableEq, Repr, Inhabited

/-- The microprogram registers and table (10_state.md R56). -/
structure Micro where
  addr : BitVec 4
  ctl : Word
  prog : Vector Word 16
  deriving DecidableEq, Repr

/-- The background-layer registers, storage only (10_state.md R57). -/
structure BgRegs where
  mode : Word
  endless : BitVec 4
  bat0 : BitVec 9
  bat1 : BitVec 9
  bat2 : BitVec 9
  bat3 : BitVec 9
  cg0 : BitVec 9
  cg1 : BitVec 9
  cg2 : BitVec 9
  cg3 : BitVec 9
  subbat0 : BitVec 9
  subbat1 : BitVec 9
  subbat2 : BitVec 9
  subbat3 : BitVec 9
  subcg0 : BitVec 9
  subcg1 : BitVec 9
  subcg2 : BitVec 9
  subcg3 : BitVec 9
  scrx0 : BitVec 11
  scry0 : BitVec 11
  scrx1 : BitVec 10
  scry1 : BitVec 10
  scrx2 : BitVec 10
  scry2 : BitVec 10
  scrx3 : BitVec 10
  scry3 : BitVec 10
  affa : Word
  affb : Word
  affc : Word
  affd : Word
  ctrx : Word
  ctry : Word
  bgsize0 : Byte
  bgsize1 : Byte
  bgsize2 : Byte
  bgsize3 : Byte
  deriving DecidableEq, Repr, Inhabited

/-- BGSTATE, the renderer's argument: the background registers, MPCTL and MPROG
(42_timing_scheduler.md R371). -/
structure BgState where
  regs : BgRegs
  mpctl : Word
  mprog : Vector Word 16
  deriving DecidableEq, Repr

/-- The KRAM cursors and the page register (10_state.md R58, R59). -/
structure KramCtl where
  ra : BitVec 28
  wa : BitVec 28
  page : BitVec 32
  deriving DecidableEq, Repr, Inhabited

/-- KRAM as cells (byte address, byte) in canonical form; the byte order inside a word is the model's
(DESIGN CHOICE, safe; log 6). -/
abbrev Memory := List Host.Cell

/-- The per-line buffers (10_state.md R73). -/
structure LineBufs where
  tbuf : List TileEntry
  tpos : Nat
  bgrows : BgRows
  obuf : List PixEntry
  deriving DecidableEq, Repr, Inhabited

/-- One finished row of output, under its line number. -/
abbrev OutRow := Nat × List Rgb24

/-- The output (10_state.md R74): the rows by rising line number, the reported geometry, the frame counter. -/
structure Output where
  rows : List OutRow
  width : Nat
  height : Nat
  interlace : Bool
  frames : Nat
  deriving DecidableEq, Repr, Inhabited

/-- A snapshot: every STORED field of 10_state.md (46_host_operations.md R533), each at its width
(DESIGN CHOICE: a record, not named entries; log 12). The machine's state extends it. -/
structure Snapshot where
  car : BitVec 5
  kar : BitVec 7
  pic : PicRegs
  palette : Palette
  timing : Timing
  rc : RenderCache
  scsi : Scsi
  dma : Dma
  play : Playback
  ovl : Overlay
  pend : Pending
  mp : Micro
  bg : BgRegs
  kctl : KramCtl
  kram : Memory
  line : LineBufs
  out : Output
  deriving DecidableEq, Repr

/-- The lines of the external bus (46_host_operations.md R536), and `data`, the block's drive of the data
byte, which 41_memory_dma_registers.md R271 forwards among them (log 10). -/
inductive Line where
  | sel
  | io
  | cd
  | msg
  | req
  | ack
  | bsy
  | rst
  | atn
  | data
  deriving DecidableEq, Repr, Inhabited

/-- The registers whose writes are notified to the playback engine (41_memory_dma_registers.md R330, R332). -/
inductive PlayReg where
  | adctl
  | play0
  | end0
  | inter0
  | play1
  | end1
  | inter1
  deriving DecidableEq, Repr, Inhabited

/-- A tile chip (46_host_operations.md R536). -/
inductive TileChip where
  | tile0
  | tile1
  deriving DecidableEq, Repr, Inhabited

/-- A call the block makes to a collaborator, with its arguments
(46_host_operations.md R536; 60_exceptions.md R551 for `setIrq`). -/
inductive Call where
  | busGet (line : Line)
  | busGetData
  | busSet (line : Line) (level : Bool)
  | busSetData (byte : Byte)
  | busService
  | busNextEvent
  | tileRun (k : Nat) (emit : Bool)
  | tileHsync (chip : TileChip)
  | tileVsync (chip : TileChip)
  | ovlDecodeBlock (bank : Bool) (addr : KAddr)
  | ovlFetchRaster (line : BitVec 9) (base : BitVec 10)
  | bgRender (line : BitVec 9) (bg : BgState) (kram : Memory)
  | playNotify (reg : PlayReg) (value : BitVec 32)
  | setIrq (level : Bool)
  deriving DecidableEq, Repr

/-- What `bus.service()` answers: whether SUBCHANNEL is in the event set, and the next event, `none` for INF
(46_host_operations.md R536). -/
structure ServiceAnswer where
  subchannel : Bool
  next : Option Nat
  deriving DecidableEq, Repr, Inhabited

/-- Answers of the collaborators that are already known, one queue per kind of call, taken from the front
(DESIGN CHOICE, safe; log 4). -/
structure Script where
  levels : List Bool
  bytes : List Byte
  services : List ServiceAnswer
  nextEvents : List (Option Nat)
  tiles : List (List TileEntry)
  blocks : List Nat
  rasters : List (List PixEntry)
  renders : List BgRows
  deriving DecidableEq, Repr, Inhabited

/-- A value for each dot-clock mode d (PMODE.DOTCLK). -/
structure PerDot where
  normal : Nat
  high : Nat
  deriving DecidableEq, Repr, Inhabited

/-- Where LINE_STEP happens (42_timing_scheduler.md R367). -/
inductive RasterInc where
  | exitP3
  | entryActive
  deriving DecidableEq, Repr, Inhabited

/-- The converter: the default formula of 43_palette_yuv.md R416, or another function of the YUV24 value
(DESIGN CHOICE, safe; log 22). -/
inductive YuvConv where
  | standard
  | other (n : Nat)
  deriving DecidableEq, Repr, Inhabited

/-- The named parameters of 00_scope.md R11 as raw values; Machine/Params.lean reads them within their ranges
(DEDUCED, safe; log 3). -/
structure Params where
  tActive : PerDot
  tP1 : PerDot
  /-- T_P3[d][0], frames of 262 lines -/
  tP3m0 : PerDot
  /-- T_P3[d][1], frames of 263 lines -/
  tP3m1 : PerDot
  tP4 : PerDot
  hsInterval : Nat
  div : PerDot
  visFirst : Nat
  visCount : Nat
  width : PerDot
  yuv2rgb : YuvConv
  neutral : Yuv24
  rasterIncAt : RasterInc
  unknownRead : Word
  /-- KRAM_INIT: KRAM's contents at power-on, any contents (70_reset_and_hazards.md R592; log 7) -/
  kramInit : Memory
  deriving DecidableEq, Repr, Inhabited

/-- The width of a bus access (20_memory.md R102). -/
inductive Size where
  | byte
  | half
  deriving DecidableEq, Repr, Inhabited

/-- A host request (30_encoding.md R140). `reserved j` is a key of CMD 7 + j, one of 7..15 (R152): no host request, but
what reaches the boundary when one is made. -/
inductive Request where
  | read (t : Nat) (a : Nat) (size : Size)
  | write (t : Nat) (a : Nat) (size : Size) (v : Word)
  | run (n : Nat)
  | reset (t : Nat)
  | save
  | restore (s : Snapshot)
  | playfetch (c : Channel)
  | reserved (j : Fin 9)
  deriving DecidableEq, Repr

/-- What a request returns to the host (46_host_operations.md R542; log 14). -/
inductive Reply where
  | nothing
  | word (v : Word)
  | byte (v : Byte)
  | snapshot (s : Snapshot)
  deriving DecidableEq, Repr

/-- The directly stored controller registers (40_controller_registers.md R201). -/
inductive CReg where
  | pmode
  | palofs0
  | palofs1
  | palofs2
  | palofs3
  | prio0
  | prio1
  | keyy
  | keyu
  | keyv
  | fixcol
  | celctl
  | sprmask
  | coef0
  | coef1
  | coef2
  | coef3
  | coef4
  | coef5
  deriving DecidableEq, Repr, Inhabited

/-- The directly stored memory/DMA registers (41_memory_dma_registers.md R260). -/
inductive KReg where
  | dmaaddr
  | dmasize
  | dmactl
  | kramra
  | kramwa
  | page
  | mpaddr
  | mpctl
  | bgendless
  | bgmode
  | bat0
  | bat1
  | bat2
  | bat3
  | cg0
  | cg1
  | cg2
  | cg3
  | subbat0
  | subbat1
  | subbat2
  | subbat3
  | subcg0
  | subcg1
  | subcg2
  | subcg3
  | scrx0
  | scry0
  | scrx1
  | scry1
  | scrx2
  | scry2
  | scrx3
  | scry3
  | affa
  | affb
  | affc
  | affd
  | ctrx
  | ctry
  | bgsize0
  | bgsize1
  | bgsize2
  | bgsize3
  | ovlctl
  | ovladdr
  | ovlblocks
  | rirqline
  | adctl
  | play0
  | end0
  | inter0
  | play1
  | end1
  | inter1
  deriving DecidableEq, Repr, Inhabited

end Sys2Proof
end

