-- ==== Sys2Proof/Machine/Operands.lean ====
section
/-! DEFINITION. Operand assembly: bus-address fields, byte lanes, halves of 32-bit sub-registers, signed fields
(20_memory.md R101 to R103; 30_encoding.md R144 to R147). -/

namespace Sys2Proof

/-- A[10:8], the space (20_memory.md R101). -/
def addrSpace (a : Nat) : BitVec 3 := BitVec.ofNat 3 (a / 256)

/-- A[2], the port: the data port is `true`. -/
def addrPort (a : Nat) : Bool := a.testBit 2

/-- A[1], the half: the high half is `true`. -/
def addrHalf (a : Nat) : Bool := a.testBit 1

/-- A[0], the byte lane. -/
def addrLane (a : Nat) : Bool := a.testBit 0

/-- A bus address with these fields and every other bit 0. -/
def mkAddr (space : BitVec 3) (port half lane : Bool) : Nat :=
  256 * space.toNat + (if port then 4 else 0) + (if half then 2 else 0) + (if lane then 1 else 0)

/-- A byte zero-extended to a word. -/
def byteWord (b : Byte) : Word := b.setWidth 16

/-- Bits [7:0] of a word. -/
def lowByte (v : Word) : Byte := v.extractLsb' 0 8

/-- Bits [15:8] of a word. -/
def highByte (v : Word) : Byte := v.extractLsb' 8 8

/-- V: the 16-bit value of a write of this width and lane (20_memory.md R102; 30_encoding.md R144). A 16-bit access
ignores its lane (20_memory.md R105); an 8-bit one has an 8-bit value (DEDUCED, safe; log 19). -/
def writeValue (size : Size) (lane : Bool) (v : Word) : Word :=
  match size with
  | .half => v
  | .byte => if lane then byteWord (lowByte v) <<< 8 else byteWord (lowByte v)

/-- What a read of this width and lane returns of the 16-bit result `r` (20_memory.md R102; 30_encoding.md R145). -/
def readResult (size : Size) (lane : Bool) (r : Word) : Reply :=
  match size with
  | .half => .word r
  | .byte => .byte (if lane then highByte r else lowByte r)

/-- merge_lo(r, V) (30_encoding.md R144). -/
def mergeLo (r : BitVec 32) (v : Word) : BitVec 32 := (r &&& 0xFFFF0000#32) ||| v.setWidth 32

/-- merge_hi(r, V) (30_encoding.md R144). -/
def mergeHi (r : BitVec 32) (v : Word) : BitVec 32 := (r &&& 0x0000FFFF#32) ||| (v.setWidth 32 <<< 16)

/-- Bits [15:0] of a sub-register (30_encoding.md R145). -/
def halfLo (r : BitVec 32) : Word := r.extractLsb' 0 16

/-- Bits [31:16] of a sub-register (30_encoding.md R145). -/
def halfHi (r : BitVec 32) : Word := r.extractLsb' 16 16

/-- The address field of a KRAM cursor (10_state.md R58). -/
def cursorAddr (r : BitVec 28) : KAddr := r.extractLsb' 0 18

/-- The step field of a KRAM cursor as a signed value, sext_18(r[27:18]) (30_encoding.md R146). -/
def cursorStep (r : BitVec 28) : KAddr := (r.extractLsb' 18 10).signExtend 18

/-- The cursor after an access: the address moved by the step mod 2^18, the step field unchanged
(41_memory_dma_registers.md R296, R297). -/
def cursorNext (r : BitVec 28) : BitVec 28 :=
  r.extractLsb' 18 10 ++ (cursorAddr r + cursorStep r)

/-- CAR <- V[4:0] (30_encoding.md R147). -/
def carOf (v : Word) : BitVec 5 := v.extractLsb' 0 5

/-- KAR <- V[6:0] (30_encoding.md R147). -/
def karOf (v : Word) : BitVec 7 := v.extractLsb' 0 7

/-- A Boolean as one bit of a status word. -/
def bit (b : Bool) (at_ : Nat) : Word := if b then 1#16 <<< at_ else 0#16

end Sys2Proof
end

