-- ==== Sys2Proof/Config.lean ====
section
/-! DEFINITION. What an implementation fixes and what the collaborators answer: constants with no body, so that
no proof can rest on a value of theirs (00_scope.md R11, R13; logs 2 and 4). -/

namespace Sys2Proof

/-- The parameters of this machine (00_scope.md R11): OPEN, so no value stands here, KRAM_INIT included
(DESIGN CHOICE, safe; logs 2 and 7). -/
opaque Config.params : Params

/-- A converter other than the default formula (43_palette_yuv.md R416: a function of the YUV24 value alone;
log 22). -/
opaque Config.otherYuv2Rgb : Nat → Yuv24 → Rgb24

/-- The level `bus.get` answers, given the calls made up to and with this one (46_host_operations.md R536; log 4). -/
opaque Config.busLevel : List Call → Bool

/-- The byte `bus.get_data` answers. -/
opaque Config.busData : List Call → Byte

/-- What `bus.service` answers. -/
opaque Config.busService : List Call → ServiceAnswer

/-- What `bus.next_event` answers, `none` for INF. -/
opaque Config.busNextEvent : List Call → Option Nat

/-- The entries `tilemix.run` answers. -/
opaque Config.tileRun : List Call → List TileEntry

/-- The words `ovl.decode_block` consumes; it reads KRAM. -/
opaque Config.ovlDecodeBlock : List Call → Memory → Nat

/-- The row `ovl.fetch_raster` answers. -/
opaque Config.ovlFetchRaster : List Call → Memory → List PixEntry

/-- The rows `bgr.render` answers. -/
opaque Config.bgRender : List Call → BgRows

end Sys2Proof
end

