-- ==== Sys2Proof/Machine/Memory.lean ====
section
/-! DEFINITION. KRAM: cells in canonical form, bytes, and the words every accessor uses
(10_state.md R60, 20_memory.md R103, R109; logs 6 and 7). -/

namespace Sys2Proof

/-- What a byte that no cell lists reads as: 0, a convention of the representation only. What KRAM holds at power-on
is the parameter KRAM_INIT, not this value (70_reset_and_hazards.md R592; DESIGN CHOICE, safe; log 7). -/
def Memory.unlisted : Byte := 0

/-- The number of byte addresses: two banks of 2^18 words of two bytes (10_state.md R60). -/
def Memory.size : Nat := 1048576

/-- The byte at a byte address. -/
def Memory.readByte : Memory → Nat → Byte
  | [], _ => Memory.unlisted
  | c :: rest, a => if c.1 = a then c.2 else Memory.readByte rest a

/-- Put a byte before the rest of a cell list; the unlisted value puts nothing. -/
def Memory.cons (a : Nat) (v : Byte) (rest : Memory) : Memory :=
  if v = Memory.unlisted then rest else (a, v) :: rest

/-- Write one byte, keeping the canonical form. -/
def Memory.writeByte : Memory → Nat → Byte → Memory
  | [], a, v => Memory.cons a v []
  | c :: rest, a, v =>
    if a < c.1 then Memory.cons a v (c :: rest)
    else if c.1 = a then Memory.cons a v rest
    else c :: Memory.writeByte rest a v

/-- The canonical form above a bound: addresses strictly rising, inside KRAM, no cell equal to the unlisted value. -/
def Memory.wfFrom : Nat → Memory → Bool
  | _, [] => true
  | lo, c :: rest =>
    decide (lo ≤ c.1) && decide (c.1 < Memory.size) && decide (c.2 ≠ Memory.unlisted) &&
      Memory.wfFrom (c.1 + 1) rest

/-- The canonical form. -/
def Memory.wf (m : Memory) : Bool := Memory.wfFrom 0 m

/-- The byte address of bits [7:0] of word `a` of bank `b` (DESIGN CHOICE, safe; log 6). -/
def kramByteAddr (b : Bool) (a : KAddr) : Nat :=
  2 * ((if b then 262144 else 0) + a.toNat)

/-- MemRead(b, a) (00_scope.md R16). -/
def memRead (m : Memory) (b : Bool) (a : KAddr) : Word :=
  m.readByte (kramByteAddr b a + 1) ++ m.readByte (kramByteAddr b a)

/-- MemWrite(b, a, v) (00_scope.md R16). -/
def memWrite (m : Memory) (b : Bool) (a : KAddr) (v : Word) : Memory :=
  (m.writeByte (kramByteAddr b a) (v.setWidth 8)).writeByte (kramByteAddr b a + 1)
    ((v >>> 8).setWidth 8)

/-- A cell list brought into canonical form, cells outside KRAM dropped: what RESTORE stores (log 12). -/
def Memory.canonical : Memory → Memory
  | [] => []
  | c :: rest =>
    if c.1 < Memory.size then (Memory.canonical rest).writeByte c.1 c.2 else Memory.canonical rest

end Sys2Proof
end

