-- ==== Sys2Proof/Machine/Params.lean ====
section
/-! DEFINITION. The parameters of 00_scope.md R11 read within the ranges the spec gives them: durations,
HS_INTERVAL and DIV at least 1, VIS_FIRST + VIS_COUNT at most 262 (DEDUCED, safe; log 3). -/

namespace Sys2Proof

/-- The value for dot-clock mode `d`. -/
def PerDot.get (p : PerDot) (d : Bool) : Nat := if d then p.high else p.normal

/-- The duration of a phase, with `d` = PMODE.DOTCLK and `m` = PMODE.LINE263 (42_timing_scheduler.md R362). -/
def Params.duration (c : Params) (ph : Phase) (d m : Bool) : Nat :=
  max 1 (match ph with
    | .active => c.tActive.get d
    | .part1 => c.tP1.get d
    | .part3 => if m then c.tP3m1.get d else c.tP3m0.get d
    | .part4 => c.tP4.get d)

/-- HS_INTERVAL (10_state.md R70). -/
def Params.hsEvery (c : Params) : Nat := max 1 c.hsInterval

/-- DIV[d] (42_timing_scheduler.md R374). -/
def Params.divOf (c : Params) (d : Bool) : Nat := max 1 (c.div.get d)

/-- VIS_FIRST (92_eei_decisions.md D24). -/
def Params.firstVisible (c : Params) : Nat := min c.visFirst 262

/-- VIS_COUNT (92_eei_decisions.md D24). -/
def Params.visibleLines (c : Params) : Nat := min c.visCount (262 - c.firstVisible)

/-- VISIBLE(L) (42_timing_scheduler.md R373). -/
def Params.visible (c : Params) (l : Nat) : Bool :=
  decide (c.firstVisible ≤ l ∧ l < c.firstVisible + c.visibleLines)

/-- W[d] (92_eei_decisions.md D45). -/
def Params.widthOf (c : Params) (d : Bool) : Nat := c.width.get d

/-- W_MAX = max(W[0], W[1]) (92_eei_decisions.md D45). -/
def Params.wMax (c : Params) : Nat := max c.width.normal c.width.high

/-- KRAM at power-on: KRAM_INIT in canonical form, cells outside KRAM dropped (70_reset_and_hazards.md R592; log 7).
Every contents of KRAM is that of some parameter record (`Params.exists_kramPowerOn`). -/
def Params.kramPowerOn (c : Params) : Memory := c.kramInit.canonical

/-- "1.. or INF": a next-event answer is at least 1 (46_host_operations.md R536). -/
def atLeastOne (n : Option Nat) : Option Nat := n.map (max 1)

end Sys2Proof
end

