-- ==== Sys2Proof/Machine/ResetValues.lean ====
section
/-! DEFINITION. What RESET leaves in every field (70_reset_and_hazards.md R590, R591) and the calls it makes. -/

namespace Sys2Proof

/-- The controller registers after reset, and RC's copy of them: all 0. -/
def PicRegs.zero : PicRegs :=
  { pmode := 0, palofs0 := 0, palofs1 := 0, palofs2 := 0, palofs3 := 0, prio0 := 0, prio1 := 0,
    keyy := 0, keyu := 0, keyv := 0, fixcol := 0, celctl := 0, sprmask := 0,
    coef0 := 0, coef1 := 0, coef2 := 0, coef3 := 0, coef4 := 0, coef5 := 0 }

/-- The palette after reset: all 0. -/
def Palette.zero : Palette := { pal := Vector.replicate 512 0, cur := 0, latch := 0 }

/-- An expanded palette of zeros: EXPAND(0) = 0 (43_palette_yuv.md R412). -/
def pcacheZero : Vector Yuv24 1024 := Vector.replicate 1024 0

/-- No layer enabled. -/
def Ranks.zero : Ranks :=
  { bg0 := 0, bg1 := 0, bg2 := 0, bg3 := 0, ovl := 0, vdcBg := 0, vdcSpr := 0 }

/-- The background registers after reset: all 0. -/
def BgRegs.zero : BgRegs :=
  { mode := 0, endless := 0, bat0 := 0, bat1 := 0, bat2 := 0, bat3 := 0,
    cg0 := 0, cg1 := 0, cg2 := 0, cg3 := 0,
    subbat0 := 0, subbat1 := 0, subbat2 := 0, subbat3 := 0,
    subcg0 := 0, subcg1 := 0, subcg2 := 0, subcg3 := 0,
    scrx0 := 0, scry0 := 0, scrx1 := 0, scry1 := 0, scrx2 := 0, scry2 := 0, scrx3 := 0, scry3 := 0,
    affa := 0, affb := 0, affc := 0, affd := 0, ctrx := 0, ctry := 0,
    bgsize0 := 0, bgsize1 := 0, bgsize2 := 0, bgsize3 := 0 }

/-- The SCSI latches after reset: all 0. -/
def Scsi.zero : Scsi :=
  { sout := 0, scmd := 0, smode := 0, sphase := 0, scache := 0,
    drq := false, recvAct := false, sendAct := false, hsAck := false }

/-- The DMA fields after reset: all 0. -/
def Dma.zero : Dma := { addr := 0, size := 0, ctl := 0, ff := false, lo := 0 }

/-- The playback fields after reset: all 0. -/
def Playback.zero : Playback :=
  { ctl := 0, play0 := 0, play1 := 0, end0 := 0, end1 := 0, inter0 := 0, inter1 := 0, flags := 0 }

/-- The overlay fields after reset: all 0. -/
def Overlay.zero : Overlay := { ctl := 0, addr := 0, blocks := 0, rirqLine := 0 }

/-- No flag pending. -/
def Pending.zero : Pending := { dma := false, phase := false, subch := false, raster := false }

/-- The microprogram fields after reset: all 0. -/
def Micro.zero : Micro := { addr := 0, ctl := 0, prog := Vector.replicate 16 0 }

/-- The cursors and PAGE after reset: all 0. -/
def KramCtl.zero : KramCtl := { ra := 0, wa := 0, page := 0 }

/-- A TRANSPARENT row of W_MAX entries. -/
def clearRow (c : Params) : List PixEntry := List.replicate c.wMax .transparent

/-- Four TRANSPARENT rows. -/
def clearRows (c : Params) : BgRows :=
  { bg0 := clearRow c, bg1 := clearRow c, bg2 := clearRow c, bg3 := clearRow c }

/-- A TRANSPARENT tile buffer. -/
def clearTiles (c : Params) : List TileEntry := List.replicate c.wMax .transparent

/-- Every stored field after RESET(t); KRAM is what it was (70_reset_and_hazards.md R590, R592). -/
def Snapshot.cleared (c : Params) (kram : Memory) (t : Nat) : Snapshot :=
  { car := 0
    kar := 0
    pic := PicRegs.zero
    palette := Palette.zero
    timing :=
      { raster := 0, hphase := .active, hcnt := c.duration .active false false, odd := false,
        divrem := 0, hscnt := c.hsEvery, now := t }
    rc := { pic := PicRegs.zero, line := 0 }
    scsi := Scsi.zero
    dma := Dma.zero
    play := Playback.zero
    ovl := Overlay.zero
    pend := Pending.zero
    mp := Micro.zero
    bg := BgRegs.zero
    kctl := KramCtl.zero
    kram := kram
    line := { tbuf := clearTiles c, tpos := 0, bgrows := clearRows c, obuf := clearRow c }
    out :=
      { rows := [], width := c.widthOf false, height := c.visibleLines, interlace := false, frames := 0 } }

/-- The calls RESET makes after `bus.next_event()`, newest first: every bus output of 10_state.md R76 forwarded as
deasserted in the order of 41_memory_dma_registers.md R271, then `host.set_irq(0)` (R590; log 23). -/
def resetCalls : List Call :=
  [.setIrq false, .busSet .data false, .busSet .ack false, .busSet .atn false, .busSet .sel false,
    .busSet .bsy false, .busSet .rst false]

/-- No answer queued. -/
def Script.none : Script :=
  { levels := [], bytes := [], services := [], nextEvents := [], tiles := [], blocks := [],
    rasters := [], renders := [] }

end Sys2Proof
end

