-- ==== Sys2Proof/Syntax.lean ====
section
/-! DEFINITION. The instructions: one constructor per row of spec/opcode_table.json. The constructors with arguments stand
first (Lean's compiler has a limit on their number), then the reads, each part in the table's order. -/

namespace Sys2Proof

/-- A host request after decoding (30_encoding.md R140 to R152). A write row carries V, the 16-bit value of the access
(R144); a read row carries nothing, for the byte of an 8-bit read is selected from the 16-bit result (R143, R145); the
fallback rows also carry the selector or the space that led to them. -/
inductive Instr where
  | wrCar (v : Word)  -- WR.CAR (R205)
  | wrPmode (v : Word)  -- WR.PMODE (R207)
  | wrPaladdr (v : Word)  -- WR.PALADDR (R208)
  | wrPalwdata (v : Word)  -- WR.PALWDATA (R209)
  | wrPalrdata (v : Word)  -- WR.PALRDATA (R211)
  | wrPalofs0 (v : Word)  -- WR.PALOFS0 (R213)
  | wrPalofs1 (v : Word)  -- WR.PALOFS1 (R213)
  | wrPalofs2 (v : Word)  -- WR.PALOFS2 (R213)
  | wrPalofs3 (v : Word)  -- WR.PALOFS3 (R213)
  | wrPrio0 (v : Word)  -- WR.PRIO0 (R215)
  | wrPrio1 (v : Word)  -- WR.PRIO1 (R215)
  | wrKeyy (v : Word)  -- WR.KEYY (R216)
  | wrKeyu (v : Word)  -- WR.KEYU (R216)
  | wrKeyv (v : Word)  -- WR.KEYV (R216)
  | wrFixcol (v : Word)  -- WR.FIXCOL (R217)
  | wrCelctl (v : Word)  -- WR.CELCTL (R218)
  | wrSprmask (v : Word)  -- WR.SPRMASK (R219)
  | wrCoef0 (v : Word)  -- WR.COEF0 (R220)
  | wrCoef1 (v : Word)  -- WR.COEF1 (R220)
  | wrCoef2 (v : Word)  -- WR.COEF2 (R220)
  | wrCoef3 (v : Word)  -- WR.COEF3 (R220)
  | wrCoef4 (v : Word)  -- WR.COEF4 (R220)
  | wrCoef5 (v : Word)  -- WR.COEF5 (R220)
  | wrCHigh (v : Word)  -- WR.C.HIGH (R204)
  | wrCUnknown (sel : BitVec 7) (v : Word)  -- WR.C.UNKNOWN (R202)
  | rdCUnknown (sel : BitVec 7)  -- RD.C.UNKNOWN (R202)
  | wrKar (v : Word)  -- WR.KAR (R262)
  | wrSdataLo (v : Word)  -- WR.SDATA.LO (R270)
  | wrSdataHi (v : Word)  -- WR.SDATA.HI (R264)
  | wrScmdLo (v : Word)  -- WR.SCMD.LO (R271)
  | wrScmdHi (v : Word)  -- WR.SCMD.HI (R264)
  | wrSmodeLo (v : Word)  -- WR.SMODE.LO (R272)
  | wrSmodeHi (v : Word)  -- WR.SMODE.HI (R264)
  | wrSphaseLo (v : Word)  -- WR.SPHASE.LO (R273)
  | wrSphaseHi (v : Word)  -- WR.SPHASE.HI (R264)
  | wrSbusLo (v : Word)  -- WR.SBUS.LO (R274)
  | wrSbusHi (v : Word)  -- WR.SBUS.HI (R264)
  | wrSstatLo (v : Word)  -- WR.SSTAT.LO (R275)
  | wrSstatHi (v : Word)  -- WR.SSTAT.HI (R264)
  | wrSinLo (v : Word)  -- WR.SIN.LO (R276)
  | wrSinHi (v : Word)  -- WR.SIN.HI (R264)
  | wrSrstLo (v : Word)  -- WR.SRST.LO (R277)
  | wrSrstHi (v : Word)  -- WR.SRST.HI (R264)
  | wrSackLo (v : Word)  -- WR.SACK.LO (R278)
  | wrSackHi (v : Word)  -- WR.SACK.HI (R264)
  | wrDmaaddrLo (v : Word)  -- WR.DMAADDR.LO (R280)
  | wrDmaaddrHi (v : Word)  -- WR.DMAADDR.HI (R280)
  | wrDmasizeLo (v : Word)  -- WR.DMASIZE.LO (R281)
  | wrDmasizeHi (v : Word)  -- WR.DMASIZE.HI (R281)
  | wrDmactlLo (v : Word)  -- WR.DMACTL.LO (R282)
  | wrDmactlHi (v : Word)  -- WR.DMACTL.HI (R282)
  | wrKramraLo (v : Word)  -- WR.KRAMRA.LO (R294)
  | wrKramraHi (v : Word)  -- WR.KRAMRA.HI (R294)
  | wrKramwaLo (v : Word)  -- WR.KRAMWA.LO (R295)
  | wrKramwaHi (v : Word)  -- WR.KRAMWA.HI (R295)
  | wrKramdataLo (v : Word)  -- WR.KRAMDATA.LO (R296)
  | wrKramdataHi (v : Word)  -- WR.KRAMDATA.HI (R298)
  | wrPageLo (v : Word)  -- WR.PAGE.LO (R300)
  | wrPageHi (v : Word)  -- WR.PAGE.HI (R300)
  | wrMpaddrLo (v : Word)  -- WR.MPADDR.LO (R310)
  | wrMpaddrHi (v : Word)  -- WR.MPADDR.HI (R310)
  | wrMpdataLo (v : Word)  -- WR.MPDATA.LO (R311)
  | wrMpdataHi (v : Word)  -- WR.MPDATA.HI (R264)
  | wrMpctlLo (v : Word)  -- WR.MPCTL.LO (R313)
  | wrMpctlHi (v : Word)  -- WR.MPCTL.HI (R313)
  | wrBgendlessLo (v : Word)  -- WR.BGENDLESS.LO (R315)
  | wrBgendlessHi (v : Word)  -- WR.BGENDLESS.HI (R315)
  | wrBgmodeLo (v : Word)  -- WR.BGMODE.LO (R316)
  | wrBgmodeHi (v : Word)  -- WR.BGMODE.HI (R316)
  | wrBat0Lo (v : Word)  -- WR.BAT0.LO (R317)
  | wrBat0Hi (v : Word)  -- WR.BAT0.HI (R317)
  | wrBat1Lo (v : Word)  -- WR.BAT1.LO (R317)
  | wrBat1Hi (v : Word)  -- WR.BAT1.HI (R317)
  | wrBat2Lo (v : Word)  -- WR.BAT2.LO (R317)
  | wrBat2Hi (v : Word)  -- WR.BAT2.HI (R317)
  | wrBat3Lo (v : Word)  -- WR.BAT3.LO (R317)
  | wrBat3Hi (v : Word)  -- WR.BAT3.HI (R317)
  | wrCg0Lo (v : Word)  -- WR.CG0.LO (R317)
  | wrCg0Hi (v : Word)  -- WR.CG0.HI (R317)
  | wrCg1Lo (v : Word)  -- WR.CG1.LO (R317)
  | wrCg1Hi (v : Word)  -- WR.CG1.HI (R317)
  | wrCg2Lo (v : Word)  -- WR.CG2.LO (R317)
  | wrCg2Hi (v : Word)  -- WR.CG2.HI (R317)
  | wrCg3Lo (v : Word)  -- WR.CG3.LO (R317)
  | wrCg3Hi (v : Word)  -- WR.CG3.HI (R317)
  | wrSubbat0Lo (v : Word)  -- WR.SUBBAT0.LO (R317)
  | wrSubbat0Hi (v : Word)  -- WR.SUBBAT0.HI (R317)
  | wrSubbat1Lo (v : Word)  -- WR.SUBBAT1.LO (R317)
  | wrSubbat1Hi (v : Word)  -- WR.SUBBAT1.HI (R317)
  | wrSubbat2Lo (v : Word)  -- WR.SUBBAT2.LO (R317)
  | wrSubbat2Hi (v : Word)  -- WR.SUBBAT2.HI (R317)
  | wrSubbat3Lo (v : Word)  -- WR.SUBBAT3.LO (R317)
  | wrSubbat3Hi (v : Word)  -- WR.SUBBAT3.HI (R317)
  | wrSubcg0Lo (v : Word)  -- WR.SUBCG0.LO (R317)
  | wrSubcg0Hi (v : Word)  -- WR.SUBCG0.HI (R317)
  | wrSubcg1Lo (v : Word)  -- WR.SUBCG1.LO (R317)
  | wrSubcg1Hi (v : Word)  -- WR.SUBCG1.HI (R317)
  | wrSubcg2Lo (v : Word)  -- WR.SUBCG2.LO (R317)
  | wrSubcg2Hi (v : Word)  -- WR.SUBCG2.HI (R317)
  | wrSubcg3Lo (v : Word)  -- WR.SUBCG3.LO (R317)
  | wrSubcg3Hi (v : Word)  -- WR.SUBCG3.HI (R317)
  | wrScrx0Lo (v : Word)  -- WR.SCRX0.LO (R318)
  | wrScrx0Hi (v : Word)  -- WR.SCRX0.HI (R318)
  | wrScry0Lo (v : Word)  -- WR.SCRY0.LO (R318)
  | wrScry0Hi (v : Word)  -- WR.SCRY0.HI (R318)
  | wrScrx1Lo (v : Word)  -- WR.SCRX1.LO (R318)
  | wrScrx1Hi (v : Word)  -- WR.SCRX1.HI (R318)
  | wrScry1Lo (v : Word)  -- WR.SCRY1.LO (R318)
  | wrScry1Hi (v : Word)  -- WR.SCRY1.HI (R318)
  | wrScrx2Lo (v : Word)  -- WR.SCRX2.LO (R318)
  | wrScrx2Hi (v : Word)  -- WR.SCRX2.HI (R318)
  | wrScry2Lo (v : Word)  -- WR.SCRY2.LO (R318)
  | wrScry2Hi (v : Word)  -- WR.SCRY2.HI (R318)
  | wrScrx3Lo (v : Word)  -- WR.SCRX3.LO (R318)
  | wrScrx3Hi (v : Word)  -- WR.SCRX3.HI (R318)
  | wrScry3Lo (v : Word)  -- WR.SCRY3.LO (R318)
  | wrScry3Hi (v : Word)  -- WR.SCRY3.HI (R318)
  | wrAffaLo (v : Word)  -- WR.AFFA.LO (R319)
  | wrAffaHi (v : Word)  -- WR.AFFA.HI (R319)
  | wrAffbLo (v : Word)  -- WR.AFFB.LO (R319)
  | wrAffbHi (v : Word)  -- WR.AFFB.HI (R319)
  | wrAffcLo (v : Word)  -- WR.AFFC.LO (R319)
  | wrAffcHi (v : Word)  -- WR.AFFC.HI (R319)
  | wrAffdLo (v : Word)  -- WR.AFFD.LO (R319)
  | wrAffdHi (v : Word)  -- WR.AFFD.HI (R319)
  | wrCtrxLo (v : Word)  -- WR.CTRX.LO (R319)
  | wrCtrxHi (v : Word)  -- WR.CTRX.HI (R319)
  | wrCtryLo (v : Word)  -- WR.CTRY.LO (R319)
  | wrCtryHi (v : Word)  -- WR.CTRY.HI (R319)
  | wrBgsize0Lo (v : Word)  -- WR.BGSIZE0.LO (R320)
  | wrBgsize0Hi (v : Word)  -- WR.BGSIZE0.HI (R320)
  | wrBgsize1Lo (v : Word)  -- WR.BGSIZE1.LO (R320)
  | wrBgsize1Hi (v : Word)  -- WR.BGSIZE1.HI (R320)
  | wrBgsize2Lo (v : Word)  -- WR.BGSIZE2.LO (R320)
  | wrBgsize2Hi (v : Word)  -- WR.BGSIZE2.HI (R320)
  | wrBgsize3Lo (v : Word)  -- WR.BGSIZE3.LO (R320)
  | wrBgsize3Hi (v : Word)  -- WR.BGSIZE3.HI (R320)
  | wrOvlctlLo (v : Word)  -- WR.OVLCTL.LO (R325)
  | wrOvlctlHi (v : Word)  -- WR.OVLCTL.HI (R325)
  | wrOvladdrLo (v : Word)  -- WR.OVLADDR.LO (R326)
  | wrOvladdrHi (v : Word)  -- WR.OVLADDR.HI (R326)
  | wrOvlblocksLo (v : Word)  -- WR.OVLBLOCKS.LO (R327)
  | wrOvlblocksHi (v : Word)  -- WR.OVLBLOCKS.HI (R327)
  | wrRirqlineLo (v : Word)  -- WR.RIRQLINE.LO (R328)
  | wrRirqlineHi (v : Word)  -- WR.RIRQLINE.HI (R328)
  | wrAdctlLo (v : Word)  -- WR.ADCTL.LO (R330)
  | wrAdctlHi (v : Word)  -- WR.ADCTL.HI (R330)
  | wrPlay0Lo (v : Word)  -- WR.PLAY0.LO (R332)
  | wrPlay0Hi (v : Word)  -- WR.PLAY0.HI (R332)
  | wrEnd0Lo (v : Word)  -- WR.END0.LO (R332)
  | wrEnd0Hi (v : Word)  -- WR.END0.HI (R332)
  | wrInter0Lo (v : Word)  -- WR.INTER0.LO (R332)
  | wrInter0Hi (v : Word)  -- WR.INTER0.HI (R332)
  | wrAdstatLo (v : Word)  -- WR.ADSTAT.LO (R338)
  | wrAdstatHi (v : Word)  -- WR.ADSTAT.HI (R264)
  | wrPlay1Lo (v : Word)  -- WR.PLAY1.LO (R332)
  | wrPlay1Hi (v : Word)  -- WR.PLAY1.HI (R332)
  | wrEnd1Lo (v : Word)  -- WR.END1.LO (R332)
  | wrEnd1Hi (v : Word)  -- WR.END1.HI (R332)
  | wrInter1Lo (v : Word)  -- WR.INTER1.LO (R332)
  | wrInter1Hi (v : Word)  -- WR.INTER1.HI (R332)
  | wrKUnknown (high : Bool) (sel : BitVec 7) (v : Word)  -- WR.K.UNKNOWN (R263)
  | rdKUnknown (high : Bool) (sel : BitVec 7)  -- RD.K.UNKNOWN (R263)
  | wrNospace (space : BitVec 3) (v : Word)  -- WR.NOSPACE (R104)
  | rdNospace (space : BitVec 3)  -- RD.NOSPACE (R104)
  | run (n : Nat)  -- RUN (R532)
  | reset (t : Nat)  -- RESET (R590)
  | save  -- SAVE (R533)
  | restore (s : Snapshot)  -- RESTORE (R533)
  | playfetch (c : Channel)  -- PLAYFETCH (R541)
  | rdCstat  -- RD.CSTAT (R206)
  | rdPmode  -- RD.PMODE (R207)
  | rdPaladdr  -- RD.PALADDR (R208)
  | rdPalwdata  -- RD.PALWDATA (R210)
  | rdPalrdata  -- RD.PALRDATA (R211)
  | rdPalofs0  -- RD.PALOFS0 (R213)
  | rdPalofs1  -- RD.PALOFS1 (R213)
  | rdPalofs2  -- RD.PALOFS2 (R213)
  | rdPalofs3  -- RD.PALOFS3 (R213)
  | rdPrio0  -- RD.PRIO0 (R215)
  | rdPrio1  -- RD.PRIO1 (R215)
  | rdKeyy  -- RD.KEYY (R216)
  | rdKeyu  -- RD.KEYU (R216)
  | rdKeyv  -- RD.KEYV (R216)
  | rdFixcol  -- RD.FIXCOL (R217)
  | rdCelctl  -- RD.CELCTL (R218)
  | rdSprmask  -- RD.SPRMASK (R219)
  | rdCoef0  -- RD.COEF0 (R220)
  | rdCoef1  -- RD.COEF1 (R220)
  | rdCoef2  -- RD.COEF2 (R220)
  | rdCoef3  -- RD.COEF3 (R220)
  | rdCoef4  -- RD.COEF4 (R220)
  | rdCoef5  -- RD.COEF5 (R220)
  | rdCHigh  -- RD.C.HIGH (R204)
  | rdKstat  -- RD.KSTAT (R261)
  | rdSdataLo  -- RD.SDATA.LO (R270)
  | rdSdataHi  -- RD.SDATA.HI (R264)
  | rdScmdLo  -- RD.SCMD.LO (R271)
  | rdScmdHi  -- RD.SCMD.HI (R264)
  | rdSmodeLo  -- RD.SMODE.LO (R272)
  | rdSmodeHi  -- RD.SMODE.HI (R264)
  | rdSphaseLo  -- RD.SPHASE.LO (R273)
  | rdSphaseHi  -- RD.SPHASE.HI (R264)
  | rdSbusLo  -- RD.SBUS.LO (R274)
  | rdSbusHi  -- RD.SBUS.HI (R264)
  | rdSstatLo  -- RD.SSTAT.LO (R275)
  | rdSstatHi  -- RD.SSTAT.HI (R264)
  | rdSinLo  -- RD.SIN.LO (R276)
  | rdSinHi  -- RD.SIN.HI (R264)
  | rdSrstLo  -- RD.SRST.LO (R277)
  | rdSrstHi  -- RD.SRST.HI (R264)
  | rdSackLo  -- RD.SACK.LO (R278)
  | rdSackHi  -- RD.SACK.HI (R264)
  | rdDmaaddrLo  -- RD.DMAADDR.LO (R280)
  | rdDmaaddrHi  -- RD.DMAADDR.HI (R280)
  | rdDmasizeLo  -- RD.DMASIZE.LO (R281)
  | rdDmasizeHi  -- RD.DMASIZE.HI (R281)
  | rdDmactlLo  -- RD.DMACTL.LO (R282)
  | rdDmactlHi  -- RD.DMACTL.HI (R282)
  | rdKramraLo  -- RD.KRAMRA.LO (R294)
  | rdKramraHi  -- RD.KRAMRA.HI (R294)
  | rdKramwaLo  -- RD.KRAMWA.LO (R295)
  | rdKramwaHi  -- RD.KRAMWA.HI (R295)
  | rdKramdataLo  -- RD.KRAMDATA.LO (R297)
  | rdKramdataHi  -- RD.KRAMDATA.HI (R298)
  | rdPageLo  -- RD.PAGE.LO (R300)
  | rdPageHi  -- RD.PAGE.HI (R300)
  | rdMpaddrLo  -- RD.MPADDR.LO (R310)
  | rdMpaddrHi  -- RD.MPADDR.HI (R310)
  | rdMpdataLo  -- RD.MPDATA.LO (R312)
  | rdMpdataHi  -- RD.MPDATA.HI (R264)
  | rdMpctlLo  -- RD.MPCTL.LO (R313)
  | rdMpctlHi  -- RD.MPCTL.HI (R313)
  | rdBgendlessLo  -- RD.BGENDLESS.LO (R315)
  | rdBgendlessHi  -- RD.BGENDLESS.HI (R315)
  | rdBgmodeLo  -- RD.BGMODE.LO (R316)
  | rdBgmodeHi  -- RD.BGMODE.HI (R316)
  | rdBat0Lo  -- RD.BAT0.LO (R317)
  | rdBat0Hi  -- RD.BAT0.HI (R317)
  | rdBat1Lo  -- RD.BAT1.LO (R317)
  | rdBat1Hi  -- RD.BAT1.HI (R317)
  | rdBat2Lo  -- RD.BAT2.LO (R317)
  | rdBat2Hi  -- RD.BAT2.HI (R317)
  | rdBat3Lo  -- RD.BAT3.LO (R317)
  | rdBat3Hi  -- RD.BAT3.HI (R317)
  | rdCg0Lo  -- RD.CG0.LO (R317)
  | rdCg0Hi  -- RD.CG0.HI (R317)
  | rdCg1Lo  -- RD.CG1.LO (R317)
  | rdCg1Hi  -- RD.CG1.HI (R317)
  | rdCg2Lo  -- RD.CG2.LO (R317)
  | rdCg2Hi  -- RD.CG2.HI (R317)
  | rdCg3Lo  -- RD.CG3.LO (R317)
  | rdCg3Hi  -- RD.CG3.HI (R317)
  | rdSubbat0Lo  -- RD.SUBBAT0.LO (R317)
  | rdSubbat0Hi  -- RD.SUBBAT0.HI (R317)
  | rdSubbat1Lo  -- RD.SUBBAT1.LO (R317)
  | rdSubbat1Hi  -- RD.SUBBAT1.HI (R317)
  | rdSubbat2Lo  -- RD.SUBBAT2.LO (R317)
  | rdSubbat2Hi  -- RD.SUBBAT2.HI (R317)
  | rdSubbat3Lo  -- RD.SUBBAT3.LO (R317)
  | rdSubbat3Hi  -- RD.SUBBAT3.HI (R317)
  | rdSubcg0Lo  -- RD.SUBCG0.LO (R317)
  | rdSubcg0Hi  -- RD.SUBCG0.HI (R317)
  | rdSubcg1Lo  -- RD.SUBCG1.LO (R317)
  | rdSubcg1Hi  -- RD.SUBCG1.HI (R317)
  | rdSubcg2Lo  -- RD.SUBCG2.LO (R317)
  | rdSubcg2Hi  -- RD.SUBCG2.HI (R317)
  | rdSubcg3Lo  -- RD.SUBCG3.LO (R317)
  | rdSubcg3Hi  -- RD.SUBCG3.HI (R317)
  | rdScrx0Lo  -- RD.SCRX0.LO (R318)
  | rdScrx0Hi  -- RD.SCRX0.HI (R318)
  | rdScry0Lo  -- RD.SCRY0.LO (R318)
  | rdScry0Hi  -- RD.SCRY0.HI (R318)
  | rdScrx1Lo  -- RD.SCRX1.LO (R318)
  | rdScrx1Hi  -- RD.SCRX1.HI (R318)
  | rdScry1Lo  -- RD.SCRY1.LO (R318)
  | rdScry1Hi  -- RD.SCRY1.HI (R318)
  | rdScrx2Lo  -- RD.SCRX2.LO (R318)
  | rdScrx2Hi  -- RD.SCRX2.HI (R318)
  | rdScry2Lo  -- RD.SCRY2.LO (R318)
  | rdScry2Hi  -- RD.SCRY2.HI (R318)
  | rdScrx3Lo  -- RD.SCRX3.LO (R318)
  | rdScrx3Hi  -- RD.SCRX3.HI (R318)
  | rdScry3Lo  -- RD.SCRY3.LO (R318)
  | rdScry3Hi  -- RD.SCRY3.HI (R318)
  | rdAffaLo  -- RD.AFFA.LO (R319)
  | rdAffaHi  -- RD.AFFA.HI (R319)
  | rdAffbLo  -- RD.AFFB.LO (R319)
  | rdAffbHi  -- RD.AFFB.HI (R319)
  | rdAffcLo  -- RD.AFFC.LO (R319)
  | rdAffcHi  -- RD.AFFC.HI (R319)
  | rdAffdLo  -- RD.AFFD.LO (R319)
  | rdAffdHi  -- RD.AFFD.HI (R319)
  | rdCtrxLo  -- RD.CTRX.LO (R319)
  | rdCtrxHi  -- RD.CTRX.HI (R319)
  | rdCtryLo  -- RD.CTRY.LO (R319)
  | rdCtryHi  -- RD.CTRY.HI (R319)
  | rdBgsize0Lo  -- RD.BGSIZE0.LO (R320)
  | rdBgsize0Hi  -- RD.BGSIZE0.HI (R320)
  | rdBgsize1Lo  -- RD.BGSIZE1.LO (R320)
  | rdBgsize1Hi  -- RD.BGSIZE1.HI (R320)
  | rdBgsize2Lo  -- RD.BGSIZE2.LO (R320)
  | rdBgsize2Hi  -- RD.BGSIZE2.HI (R320)
  | rdBgsize3Lo  -- RD.BGSIZE3.LO (R320)
  | rdBgsize3Hi  -- RD.BGSIZE3.HI (R320)
  | rdOvlctlLo  -- RD.OVLCTL.LO (R325)
  | rdOvlctlHi  -- RD.OVLCTL.HI (R325)
  | rdOvladdrLo  -- RD.OVLADDR.LO (R326)
  | rdOvladdrHi  -- RD.OVLADDR.HI (R326)
  | rdOvlblocksLo  -- RD.OVLBLOCKS.LO (R327)
  | rdOvlblocksHi  -- RD.OVLBLOCKS.HI (R327)
  | rdRirqlineLo  -- RD.RIRQLINE.LO (R328)
  | rdRirqlineHi  -- RD.RIRQLINE.HI (R328)
  | rdAdctlLo  -- RD.ADCTL.LO (R330)
  | rdAdctlHi  -- RD.ADCTL.HI (R330)
  | rdPlay0Lo  -- RD.PLAY0.LO (R332)
  | rdPlay0Hi  -- RD.PLAY0.HI (R332)
  | rdEnd0Lo  -- RD.END0.LO (R332)
  | rdEnd0Hi  -- RD.END0.HI (R332)
  | rdInter0Lo  -- RD.INTER0.LO (R332)
  | rdInter0Hi  -- RD.INTER0.HI (R332)
  | rdAdstatLo  -- RD.ADSTAT.LO (R338)
  | rdAdstatHi  -- RD.ADSTAT.HI (R264)
  | rdPlay1Lo  -- RD.PLAY1.LO (R332)
  | rdPlay1Hi  -- RD.PLAY1.HI (R332)
  | rdEnd1Lo  -- RD.END1.LO (R332)
  | rdEnd1Hi  -- RD.END1.HI (R332)
  | rdInter1Lo  -- RD.INTER1.LO (R332)
  | rdInter1Hi  -- RD.INTER1.HI (R332)
  deriving DecidableEq, Repr

end Sys2Proof
end

