-- ==== Sys2Proof/Machine/State.lean ====
section
/-! DEFINITION. The state of the block: every stored field of 10_state.md (the snapshot), the derived fields it also
stores, and the model's own fields; why a step can stop; the state after reset. -/

namespace Sys2Proof.Machine

/-- The machine. `toSnapshot` is every stored field of 10_state.md, what SAVE returns (46_host_operations.md R533);
the fields below it are stored but derived (R35, R46, R71; 60_exceptions.md R551) or the model's own. -/
structure State extends Snapshot where
  /-- PCACHE, the live expanded palette (10_state.md R35) -/
  pcache : Vector Yuv24 1024
  /-- RC.PCACHE and RC.RANK (10_state.md R46) -/
  rcd : RenderDerived
  /-- EXTCNT, none for INF (10_state.md R71) -/
  extcnt : Option Nat
  /-- last_irq, the level last sent to the host (60_exceptions.md R551) -/
  lastIrq : Bool
  /-- model's own: the named parameters, which no step changes (log 2) -/
  cfg : Params
  /-- model's own: answers of the collaborators already known (log 4) -/
  script : Script
  /-- model's own: the host requests not yet performed (log 1) -/
  requests : List Request
  /-- model's own: the calls made so far, newest first (log 15) -/
  calls : List Call
  /-- model's own: what the latest request returned (log 14) -/
  reply : Reply
  deriving DecidableEq, Repr

/-- Why the block faults: never. It raises no exception and every operation is total (00_scope.md R17,
60_exceptions.md R550, 44_compositor.md R462), so this type has no constructor (DEDUCED, safe; log 24). -/
inductive Fault where
  deriving DecidableEq, Repr

/-- Why a request is refused at the host boundary (46_host_operations.md R537). -/
inductive Refusal where
  /-- Raised by `exec` for an instruction without a meaning (no arm raises it in this model); safe. -/
  | notModelled (mnemonic : String)
  /-- Raised by `step` for a bus request whose timestamp is earlier than NOW (R530, R537); the spec's own refusal;
  safe. -/
  | timestampBeforeNow (t now : Nat)
  /-- Raised by `step` for a key with CMD 7..15, which is no host request (30_encoding.md R142, R152); the spec's
  own refusal; safe. -/
  | reservedRequest (cmd : BitVec 4)
  deriving DecidableEq, Repr

/-! Named updates: one per field, so that no operation writes a record update of the whole state. `cfg` has none. -/

/-- The state with another `car`. -/
def State.setCar (s : State) (x : BitVec 5) : State := { s with car := x }

/-- The state with another `kar`. -/
def State.setKar (s : State) (x : BitVec 7) : State := { s with kar := x }

/-- The state with another `pic`. -/
def State.setPic (s : State) (x : PicRegs) : State := { s with pic := x }

/-- The state with another `palette`. -/
def State.setPalette (s : State) (x : Palette) : State := { s with palette := x }

/-- The state with another `timing`. -/
def State.setTiming (s : State) (x : Timing) : State := { s with timing := x }

/-- The state with another `rc`. -/
def State.setRc (s : State) (x : RenderCache) : State := { s with rc := x }

/-- The state with another `scsi`. -/
def State.setScsi (s : State) (x : Scsi) : State := { s with scsi := x }

/-- The state with another `dma`. -/
def State.setDma (s : State) (x : Dma) : State := { s with dma := x }

/-- The state with another `play`. -/
def State.setPlay (s : State) (x : Playback) : State := { s with play := x }

/-- The state with another `ovl`. -/
def State.setOvl (s : State) (x : Overlay) : State := { s with ovl := x }

/-- The state with another `pend`. -/
def State.setPend (s : State) (x : Pending) : State := { s with pend := x }

/-- The state with another `mp`. -/
def State.setMp (s : State) (x : Micro) : State := { s with mp := x }

/-- The state with another `bg`. -/
def State.setBg (s : State) (x : BgRegs) : State := { s with bg := x }

/-- The state with another `kctl`. -/
def State.setKctl (s : State) (x : KramCtl) : State := { s with kctl := x }

/-- The state with another `kram`. -/
def State.setKram (s : State) (x : Memory) : State := { s with kram := x }

/-- The state with another `line`. -/
def State.setLine (s : State) (x : LineBufs) : State := { s with line := x }

/-- The state with another `out`. -/
def State.setOut (s : State) (x : Output) : State := { s with out := x }

/-- The state with another `pcache`. -/
def State.setPcache (s : State) (x : Vector Yuv24 1024) : State := { s with pcache := x }

/-- The state with another `rcd`. -/
def State.setRcd (s : State) (x : RenderDerived) : State := { s with rcd := x }

/-- The state with another `extcnt`. -/
def State.setExtcnt (s : State) (x : Option Nat) : State := { s with extcnt := x }

/-- The state with another `lastIrq`. -/
def State.setLastIrq (s : State) (x : Bool) : State := { s with lastIrq := x }

/-- The state with another `script`. -/
def State.setScript (s : State) (x : Script) : State := { s with script := x }

/-- The state with another `requests`. -/
def State.setRequests (s : State) (x : List Request) : State := { s with requests := x }

/-- The state with another `calls`. -/
def State.setCalls (s : State) (x : List Call) : State := { s with calls := x }

/-- The state with another `reply`. -/
def State.setReply (s : State) (x : Reply) : State := { s with reply := x }

/-- The state with every stored field of 10_state.md replaced. -/
def State.setSnapshot (s : State) (x : Snapshot) : State := { s with toSnapshot := x }

/-- The machine with parameters `c` right after power-on and RESET(0) (70_reset_and_hazards.md R590, R592): EXTCNT is a
draw of `bus.next_event()` (R71), KRAM holds KRAM_INIT. -/
def State.afterReset (c : Params) : State :=
  { Snapshot.cleared c c.kramPowerOn 0 with
    pcache := pcacheZero
    rcd := { pcache := pcacheZero, rank := Ranks.zero }
    extcnt := atLeastOne (Config.busNextEvent [.busNextEvent])
    lastIrq := false
    cfg := c
    script := Script.none
    requests := []
    calls := resetCalls ++ [.busNextEvent]
    reply := .nothing }

/-- The machine right after reset: the parameters of this machine, KRAM_INIT among them (log 7), timestamp 0
(DESIGN CHOICE, unsafe; log 21), no request waiting. -/
def State.reset : State := State.afterReset Config.params

end Sys2Proof.Machine
end

