-- ==== Sys2Proof/Machine/Registers.lean ====
section
/-! DEFINITION. The directly stored registers: their writable masks, their place in State, and the two masked stores
(40_controller_registers.md R201; 41_memory_dma_registers.md R260). -/

namespace Sys2Proof.Machine

/-- The writable mask of a directly stored controller register (40_controller_registers.md section 1). -/
def cMask : CReg → Word
  | .pmode => 0x7F0B
  | .palofs0 => 0xFFFF
  | .palofs1 => 0xFFFF
  | .palofs2 => 0xFFFF
  | .palofs3 => 0x00FF
  | .prio0 => 0xFFFF
  | .prio1 => 0x0FFF
  | .keyy => 0xFFFF
  | .keyu => 0xFFFF
  | .keyv => 0xFFFF
  | .fixcol => 0xFFFF
  | .celctl => 0xFFFF
  | .sprmask => 0xFFFF
  | .coef0 => 0x0FFF
  | .coef1 => 0x0FFF
  | .coef2 => 0x0FFF
  | .coef3 => 0x0FFF
  | .coef4 => 0x0FFF
  | .coef5 => 0x0FFF

/-- The stored value, zero-extended to 16 bits. -/
def cRead (p : PicRegs) : CReg → Word
  | .pmode => p.pmode
  | .palofs0 => p.palofs0
  | .palofs1 => p.palofs1
  | .palofs2 => p.palofs2
  | .palofs3 => p.palofs3
  | .prio0 => p.prio0
  | .prio1 => p.prio1
  | .keyy => p.keyy
  | .keyu => p.keyu
  | .keyv => p.keyv
  | .fixcol => p.fixcol
  | .celctl => p.celctl
  | .sprmask => p.sprmask
  | .coef0 => p.coef0.setWidth 16
  | .coef1 => p.coef1.setWidth 16
  | .coef2 => p.coef2.setWidth 16
  | .coef3 => p.coef3.setWidth 16
  | .coef4 => p.coef4.setWidth 16
  | .coef5 => p.coef5.setWidth 16

/-- Store a 16-bit value in the register, at the register's width. -/
def cWrite (p : PicRegs) (r : CReg) (x : Word) : PicRegs :=
  match r with
  | .pmode => { p with pmode := x }
  | .palofs0 => { p with palofs0 := x }
  | .palofs1 => { p with palofs1 := x }
  | .palofs2 => { p with palofs2 := x }
  | .palofs3 => { p with palofs3 := x }
  | .prio0 => { p with prio0 := x }
  | .prio1 => { p with prio1 := x }
  | .keyy => { p with keyy := x }
  | .keyu => { p with keyu := x }
  | .keyv => { p with keyv := x }
  | .fixcol => { p with fixcol := x }
  | .celctl => { p with celctl := x }
  | .sprmask => { p with sprmask := x }
  | .coef0 => { p with coef0 := x.setWidth 12 }
  | .coef1 => { p with coef1 := x.setWidth 12 }
  | .coef2 => { p with coef2 := x.setWidth 12 }
  | .coef3 => { p with coef3 := x.setWidth 12 }
  | .coef4 => { p with coef4 := x.setWidth 12 }
  | .coef5 => { p with coef5 := x.setWidth 12 }

/-- CREG[r] <- V & M (40_controller_registers.md R201). -/
def cStore (p : PicRegs) (r : CReg) (v : Word) : PicRegs := cWrite p r (v &&& cMask r)

/-- The writable mask of a directly stored memory/DMA register (41_memory_dma_registers.md section 1). -/
def kMask : KReg → BitVec 32
  | .dmaaddr => 0x0003FFFF
  | .dmasize => 0x00FFFFFF
  | .dmactl => 0x00000001
  | .kramra => 0x0FFFFFFF
  | .kramwa => 0x0FFFFFFF
  | .page => 0x01010011
  | .mpaddr => 0x0000000F
  | .mpctl => 0x00000001
  | .bgendless => 0x0000000F
  | .bgmode => 0x0000FFFF
  | .bat0 => 0x000001FF
  | .bat1 => 0x000001FF
  | .bat2 => 0x000001FF
  | .bat3 => 0x000001FF
  | .cg0 => 0x000001FF
  | .cg1 => 0x000001FF
  | .cg2 => 0x000001FF
  | .cg3 => 0x000001FF
  | .subbat0 => 0x000001FF
  | .subbat1 => 0x000001FF
  | .subbat2 => 0x000001FF
  | .subbat3 => 0x000001FF
  | .subcg0 => 0x000001FF
  | .subcg1 => 0x000001FF
  | .subcg2 => 0x000001FF
  | .subcg3 => 0x000001FF
  | .scrx0 => 0x000007FF
  | .scry0 => 0x000007FF
  | .scrx1 => 0x000003FF
  | .scry1 => 0x000003FF
  | .scrx2 => 0x000003FF
  | .scry2 => 0x000003FF
  | .scrx3 => 0x000003FF
  | .scry3 => 0x000003FF
  | .affa => 0x0000FFFF
  | .affb => 0x0000FFFF
  | .affc => 0x0000FFFF
  | .affd => 0x0000FFFF
  | .ctrx => 0x0000FFFF
  | .ctry => 0x0000FFFF
  | .bgsize0 => 0x000000FF
  | .bgsize1 => 0x000000FF
  | .bgsize2 => 0x000000FF
  | .bgsize3 => 0x000000FF
  | .ovlctl => 0x00000003
  | .ovladdr => 0x0003FFFF
  | .ovlblocks => 0x0000FFFF
  | .rirqline => 0x000001FF
  | .adctl => 0x0000003F
  | .play0 => 0x0003FFFF
  | .end0 => 0x0003FFFF
  | .inter0 => 0x0003FFFF
  | .play1 => 0x0003FFFF
  | .end1 => 0x0003FFFF
  | .inter1 => 0x0003FFFF

/-- The stored value, zero-extended to 32 bits. -/
def kRead (s : State) : KReg → BitVec 32
  | .dmaaddr => s.dma.addr.setWidth 32
  | .dmasize => s.dma.size.setWidth 32
  | .dmactl => s.dma.ctl.setWidth 32
  | .kramra => s.kctl.ra.setWidth 32
  | .kramwa => s.kctl.wa.setWidth 32
  | .page => s.kctl.page
  | .mpaddr => s.mp.addr.setWidth 32
  | .mpctl => s.mp.ctl.setWidth 32
  | .bgendless => s.bg.endless.setWidth 32
  | .bgmode => s.bg.mode.setWidth 32
  | .bat0 => s.bg.bat0.setWidth 32
  | .bat1 => s.bg.bat1.setWidth 32
  | .bat2 => s.bg.bat2.setWidth 32
  | .bat3 => s.bg.bat3.setWidth 32
  | .cg0 => s.bg.cg0.setWidth 32
  | .cg1 => s.bg.cg1.setWidth 32
  | .cg2 => s.bg.cg2.setWidth 32
  | .cg3 => s.bg.cg3.setWidth 32
  | .subbat0 => s.bg.subbat0.setWidth 32
  | .subbat1 => s.bg.subbat1.setWidth 32
  | .subbat2 => s.bg.subbat2.setWidth 32
  | .subbat3 => s.bg.subbat3.setWidth 32
  | .subcg0 => s.bg.subcg0.setWidth 32
  | .subcg1 => s.bg.subcg1.setWidth 32
  | .subcg2 => s.bg.subcg2.setWidth 32
  | .subcg3 => s.bg.subcg3.setWidth 32
  | .scrx0 => s.bg.scrx0.setWidth 32
  | .scry0 => s.bg.scry0.setWidth 32
  | .scrx1 => s.bg.scrx1.setWidth 32
  | .scry1 => s.bg.scry1.setWidth 32
  | .scrx2 => s.bg.scrx2.setWidth 32
  | .scry2 => s.bg.scry2.setWidth 32
  | .scrx3 => s.bg.scrx3.setWidth 32
  | .scry3 => s.bg.scry3.setWidth 32
  | .affa => s.bg.affa.setWidth 32
  | .affb => s.bg.affb.setWidth 32
  | .affc => s.bg.affc.setWidth 32
  | .affd => s.bg.affd.setWidth 32
  | .ctrx => s.bg.ctrx.setWidth 32
  | .ctry => s.bg.ctry.setWidth 32
  | .bgsize0 => s.bg.bgsize0.setWidth 32
  | .bgsize1 => s.bg.bgsize1.setWidth 32
  | .bgsize2 => s.bg.bgsize2.setWidth 32
  | .bgsize3 => s.bg.bgsize3.setWidth 32
  | .ovlctl => s.ovl.ctl.setWidth 32
  | .ovladdr => s.ovl.addr.setWidth 32
  | .ovlblocks => s.ovl.blocks.setWidth 32
  | .rirqline => s.ovl.rirqLine.setWidth 32
  | .adctl => s.play.ctl.setWidth 32
  | .play0 => s.play.play0.setWidth 32
  | .end0 => s.play.end0.setWidth 32
  | .inter0 => s.play.inter0.setWidth 32
  | .play1 => s.play.play1.setWidth 32
  | .end1 => s.play.end1.setWidth 32
  | .inter1 => s.play.inter1.setWidth 32

/-- Store a 32-bit value in the register, at the register's width. -/
def kWrite (s : State) (r : KReg) (x : BitVec 32) : State :=
  match r with
  | .dmaaddr => s.setDma { s.dma with addr := x.setWidth 18 }
  | .dmasize => s.setDma { s.dma with size := x.setWidth 24 }
  | .dmactl => s.setDma { s.dma with ctl := x.setWidth 16 }
  | .kramra => s.setKctl { s.kctl with ra := x.setWidth 28 }
  | .kramwa => s.setKctl { s.kctl with wa := x.setWidth 28 }
  | .page => s.setKctl { s.kctl with page := x }
  | .mpaddr => s.setMp { s.mp with addr := x.setWidth 4 }
  | .mpctl => s.setMp { s.mp with ctl := x.setWidth 16 }
  | .bgendless => s.setBg { s.bg with endless := x.setWidth 4 }
  | .bgmode => s.setBg { s.bg with mode := x.setWidth 16 }
  | .bat0 => s.setBg { s.bg with bat0 := x.setWidth 9 }
  | .bat1 => s.setBg { s.bg with bat1 := x.setWidth 9 }
  | .bat2 => s.setBg { s.bg with bat2 := x.setWidth 9 }
  | .bat3 => s.setBg { s.bg with bat3 := x.setWidth 9 }
  | .cg0 => s.setBg { s.bg with cg0 := x.setWidth 9 }
  | .cg1 => s.setBg { s.bg with cg1 := x.setWidth 9 }
  | .cg2 => s.setBg { s.bg with cg2 := x.setWidth 9 }
  | .cg3 => s.setBg { s.bg with cg3 := x.setWidth 9 }
  | .subbat0 => s.setBg { s.bg with subbat0 := x.setWidth 9 }
  | .subbat1 => s.setBg { s.bg with subbat1 := x.setWidth 9 }
  | .subbat2 => s.setBg { s.bg with subbat2 := x.setWidth 9 }
  | .subbat3 => s.setBg { s.bg with subbat3 := x.setWidth 9 }
  | .subcg0 => s.setBg { s.bg with subcg0 := x.setWidth 9 }
  | .subcg1 => s.setBg { s.bg with subcg1 := x.setWidth 9 }
  | .subcg2 => s.setBg { s.bg with subcg2 := x.setWidth 9 }
  | .subcg3 => s.setBg { s.bg with subcg3 := x.setWidth 9 }
  | .scrx0 => s.setBg { s.bg with scrx0 := x.setWidth 11 }
  | .scry0 => s.setBg { s.bg with scry0 := x.setWidth 11 }
  | .scrx1 => s.setBg { s.bg with scrx1 := x.setWidth 10 }
  | .scry1 => s.setBg { s.bg with scry1 := x.setWidth 10 }
  | .scrx2 => s.setBg { s.bg with scrx2 := x.setWidth 10 }
  | .scry2 => s.setBg { s.bg with scry2 := x.setWidth 10 }
  | .scrx3 => s.setBg { s.bg with scrx3 := x.setWidth 10 }
  | .scry3 => s.setBg { s.bg with scry3 := x.setWidth 10 }
  | .affa => s.setBg { s.bg with affa := x.setWidth 16 }
  | .affb => s.setBg { s.bg with affb := x.setWidth 16 }
  | .affc => s.setBg { s.bg with affc := x.setWidth 16 }
  | .affd => s.setBg { s.bg with affd := x.setWidth 16 }
  | .ctrx => s.setBg { s.bg with ctrx := x.setWidth 16 }
  | .ctry => s.setBg { s.bg with ctry := x.setWidth 16 }
  | .bgsize0 => s.setBg { s.bg with bgsize0 := x.setWidth 8 }
  | .bgsize1 => s.setBg { s.bg with bgsize1 := x.setWidth 8 }
  | .bgsize2 => s.setBg { s.bg with bgsize2 := x.setWidth 8 }
  | .bgsize3 => s.setBg { s.bg with bgsize3 := x.setWidth 8 }
  | .ovlctl => s.setOvl { s.ovl with ctl := x.setWidth 16 }
  | .ovladdr => s.setOvl { s.ovl with addr := x.setWidth 18 }
  | .ovlblocks => s.setOvl { s.ovl with blocks := x.setWidth 16 }
  | .rirqline => s.setOvl { s.ovl with rirqLine := x.setWidth 9 }
  | .adctl => s.setPlay { s.play with ctl := x.setWidth 16 }
  | .play0 => s.setPlay { s.play with play0 := x.setWidth 18 }
  | .end0 => s.setPlay { s.play with end0 := x.setWidth 18 }
  | .inter0 => s.setPlay { s.play with inter0 := x.setWidth 18 }
  | .play1 => s.setPlay { s.play with play1 := x.setWidth 18 }
  | .end1 => s.setPlay { s.play with end1 := x.setWidth 18 }
  | .inter1 => s.setPlay { s.play with inter1 := x.setWidth 18 }

/-- r <- merge_lo(r, V) & M (41_memory_dma_registers.md R260). -/
def kStoreLo (s : State) (r : KReg) (v : Word) : State :=
  kWrite s r (mergeLo (kRead s r) v &&& kMask r)

/-- r <- merge_hi(r, V) & M (41_memory_dma_registers.md R260). -/
def kStoreHi (s : State) (r : KReg) (v : Word) : State :=
  kWrite s r (mergeHi (kRead s r) v &&& kMask r)

/-- The playback register a write of which is notified, if any (41_memory_dma_registers.md R330, R332). -/
def kNotifies : KReg → Option PlayReg
  | .dmaaddr => none
  | .dmasize => none
  | .dmactl => none
  | .kramra => none
  | .kramwa => none
  | .page => none
  | .mpaddr => none
  | .mpctl => none
  | .bgendless => none
  | .bgmode => none
  | .bat0 => none
  | .bat1 => none
  | .bat2 => none
  | .bat3 => none
  | .cg0 => none
  | .cg1 => none
  | .cg2 => none
  | .cg3 => none
  | .subbat0 => none
  | .subbat1 => none
  | .subbat2 => none
  | .subbat3 => none
  | .subcg0 => none
  | .subcg1 => none
  | .subcg2 => none
  | .subcg3 => none
  | .scrx0 => none
  | .scry0 => none
  | .scrx1 => none
  | .scry1 => none
  | .scrx2 => none
  | .scry2 => none
  | .scrx3 => none
  | .scry3 => none
  | .affa => none
  | .affb => none
  | .affc => none
  | .affd => none
  | .ctrx => none
  | .ctry => none
  | .bgsize0 => none
  | .bgsize1 => none
  | .bgsize2 => none
  | .bgsize3 => none
  | .ovlctl => none
  | .ovladdr => none
  | .ovlblocks => none
  | .rirqline => none
  | .adctl => some .adctl
  | .play0 => some .play0
  | .end0 => some .end0
  | .inter0 => some .inter0
  | .play1 => some .play1
  | .end1 => some .end1
  | .inter1 => some .inter1

end Sys2Proof.Machine
end

