-- ==== Sys2Proof/Machine/Flags.lean ====
section
/-! DEFINITION. Flags and status words: the five interrupt conditions, the IRQ level, the bus outputs, and the words
the host reads them in (10_state.md R55, R75, R76; 60_exceptions.md R551, R552). -/

namespace Sys2Proof.Machine

/-- PMODE.LINE263 (40_controller_registers.md R203). -/
def line263 (pmode : Word) : Bool := pmode.getLsbD 0

/-- PMODE.INTERLACE. -/
def interlaced (pmode : Word) : Bool := pmode.getLsbD 1

/-- PMODE.DOTCLK. -/
def dotClock (pmode : Word) : Bool := pmode.getLsbD 3

/-- N, the line count of a frame (42_timing_scheduler.md R364). -/
def lineCount (pmode : Word) : Nat := 262 + (line263 pmode).toNat

/-- PLAY_PEND (41_memory_dma_registers.md R331). -/
def playPend (p : Playback) : Bool :=
  (p.flags.getLsbD 0 && p.ctl.getLsbD 0) || (p.flags.getLsbD 1 && p.ctl.getLsbD 1) ||
    (p.flags.getLsbD 2 && p.ctl.getLsbD 2) || (p.flags.getLsbD 3 && p.ctl.getLsbD 3)

/-- IRQ, the OR of the five conditions (10_state.md R75). -/
def irqLevel (s : State) : Bool :=
  s.pend.dma || s.pend.phase || s.pend.subch || s.pend.raster || playPend s.play

/-- ACK as the block drives it (10_state.md R76). -/
def ackOut (b : Scsi) : Bool := b.scmd.getLsbD 4 || b.hsAck

/-- SEL as the block drives it. -/
def selOut (b : Scsi) : Bool := b.scmd.getLsbD 2

/-- BSY as the block drives it. -/
def bsyOut (b : Scsi) : Bool := b.scmd.getLsbD 3

/-- ATN as the block drives it. -/
def atnOut (b : Scsi) : Bool := b.scmd.getLsbD 1

/-- RST as the block drives it. -/
def rstOut (b : Scsi) : Bool := b.scmd.getLsbD 7

/-- The data byte is driven with SOUT (10_state.md R76). -/
def dataDriven (b : Scsi) : Bool := b.scmd.getLsbD 0

/-- SMODE.DMA_MODE (41_memory_dma_registers.md R272). -/
def dmaMode (b : Scsi) : Bool := b.smode.getLsbD 1

/-- DMA_CTL.REAL (41_memory_dma_registers.md R282). -/
def realDma (d : Dma) : Bool := d.ctl.getLsbD 0

/-- OVL_CTL.EN (41_memory_dma_registers.md R325). -/
def ovlEnabled (o : Overlay) : Bool := o.ctl.getLsbD 0

/-- OVL_CTL.RIRQ_EN (41_memory_dma_registers.md R325). -/
def rasterIrqEnabled (o : Overlay) : Bool := o.ctl.getLsbD 1

/-- BANK_DMA (10_state.md R59). -/
def bankDma (k : KramCtl) : Bool := k.page.getLsbD 0

/-- BANK_CPU. -/
def bankCpu (k : KramCtl) : Bool := k.page.getLsbD 4

/-- BANK_OVL. -/
def bankOvl (k : KramCtl) : Bool := k.page.getLsbD 16

/-- BANK_PLAY. -/
def bankPlay (k : KramCtl) : Bool := k.page.getLsbD 24

/-- The controller status word (40_controller_registers.md R206). -/
def controllerStatus (t : Timing) : Word :=
  t.raster.setWidth 16 ||| bit t.odd 9 ||| bit (t.hphase == .active) 10

/-- The memory/DMA status word, before its read clears it (41_memory_dma_registers.md R261). -/
def memoryStatus (s : State) : Word :=
  bit s.pend.dma 0 ||| bit s.pend.phase 1 ||| bit s.pend.subch 2 ||| bit s.pend.raster 3 |||
    bit (playPend s.play) 4 ||| bit (irqLevel s) 5 ||| bit s.scsi.drq 6

/-- The SBUS word from the bus levels (41_memory_dma_registers.md R274). -/
def sbusWord (rst bsy req msg cd io sel : Bool) : Word :=
  bit rst 7 ||| bit bsy 6 ||| bit req 5 ||| bit msg 4 ||| bit cd 3 ||| bit io 2 ||| bit sel 1

/-- PM: the bus phase equals SPHASE (41_memory_dma_registers.md R275). -/
def phaseMatches (sphase : Byte) (msg cd io : Bool) : Bool :=
  msg == sphase.getLsbD 2 && cd == sphase.getLsbD 1 && io == sphase.getLsbD 0

/-- The SSTAT word (41_memory_dma_registers.md R275). -/
def sstatWord (drq phasePend pm atn ack : Bool) : Word :=
  bit drq 6 ||| bit phasePend 4 ||| bit pm 3 ||| bit atn 1 ||| bit ack 0

end Sys2Proof.Machine
end

