-- ==== Sys2Proof/Machine/Palette.lean ====
section
/-! DEFINITION. The palette, its expanded cache, and the YUV-to-RGB converter (43_palette_yuv.md). -/

namespace Sys2Proof.Machine

/-- Y of a YUV24 value (00_scope.md R19). -/
def yOf (c : Yuv24) : Byte := c.extractLsb' 16 8

/-- U of a YUV24 value. -/
def uOf (c : Yuv24) : Byte := c.extractLsb' 8 8

/-- V of a YUV24 value. -/
def vOf (c : Yuv24) : Byte := c.extractLsb' 0 8

/-- clamp(x, lo, hi) to a byte channel (00_scope.md R15). -/
def clampByte (x : Int) : Byte := BitVec.ofInt 8 (min (max x 0) 255)

/-- EXPAND, from a raw entry to YUV24 (43_palette_yuv.md R412). -/
def expand (r : Word) : Yuv24 :=
  r.extractLsb' 8 8 ++ r.extractLsb' 4 4 ++ 0#4 ++ r.extractLsb' 0 4 ++ 0#4

/-- The default converter (43_palette_yuv.md R416); `>>` is the arithmetic shift (00_scope.md R15). -/
def yuvDefault (c : Yuv24) : Rgb24 :=
  let y : Int := (yOf c).toNat
  let u : Int := (uOf c).toNat - 128
  let v : Int := (vOf c).toNat - 128
  clampByte (y + ((359 * v) >>> 8)) ++ clampByte (y - ((88 * u + 183 * v) >>> 8)) ++
    clampByte (y + ((454 * u) >>> 8))

/-- YUV2RGB (43_palette_yuv.md R416, R417; log 22). -/
def yuv2rgb (k : YuvConv) (c : Yuv24) : Rgb24 :=
  match k with
  | .standard => yuvDefault c
  | .other n => Config.otherYuv2Rgb n c

/-- PAL[i]. -/
def palGet (p : Vector Word 512) (i : BitVec 9) : Word := p[i.toNat]'(by have := i.isLt; omega)

/-- PAL[i] <- v. -/
def palSet (p : Vector Word 512) (i : BitVec 9) (v : Word) : Vector Word 512 :=
  p.set i.toNat v (by have := i.isLt; omega)

/-- PCACHE[j]. -/
def pcacheGet (p : Vector Yuv24 1024) (j : BitVec 10) : Yuv24 := p[j.toNat]'(by have := j.isLt; omega)

/-- PCACHE[i] and its mirror PCACHE[i + 512] <- y (43_palette_yuv.md R411). -/
def pcacheSet (p : Vector Yuv24 1024) (i : BitVec 9) (y : Yuv24) : Vector Yuv24 1024 :=
  (p.set i.toNat y (by have := i.isLt; omega)).set (i.toNat + 512) y (by have := i.isLt; omega)

/-- The whole cache from the palette, both copies: what RESTORE re-derives (43_palette_yuv.md R411;
46_host_operations.md R533). -/
def pcacheOf (p : Vector Word 512) : Vector Yuv24 1024 :=
  ⟨(p.toList.map expand ++ p.toList.map expand).toArray, by simp⟩

/-- Write PALADDR: set the cursor and prefetch (40_controller_registers.md R208). -/
def paletteSeek (p : Palette) (i : BitVec 9) : Palette := { p with cur := i, latch := palGet p.pal i }

/-- Write PALWDATA: store at the cursor, advance, prefetch (40_controller_registers.md R209). -/
def palettePush (p : Palette) (v : Word) : Palette :=
  paletteSeek { p with pal := palSet p.pal p.cur v } (p.cur + 1)

/-- Read PALRDATA: advance and prefetch (40_controller_registers.md R211). -/
def paletteAdvance (p : Palette) : Palette := paletteSeek p (p.cur + 1)

end Sys2Proof.Machine
end

