-- ==== Sys2Proof/Machine/Ops.lean ====
section
/-! DEFINITION. The shared operations: calls to collaborators and their answers, bus outputs, the interrupt output,
KRAM accesses, and how a request completes. The block takes no exception (60_exceptions.md R550, R555): what stands in
for exception entry is the re-evaluation of the IRQ level (R551), `reevalIrq`. -/

namespace Sys2Proof.Machine

/-! Calls and answers (46_host_operations.md R536; log 4): an answer is the first one queued, or, when none is
queued, free: a constant of Config applied to all the calls made so far. -/

/-- Record a call. -/
def call (s : State) (c : Call) : State := s.setCalls (c :: s.calls)

/-- The next answered level, the call already recorded. -/
def takeLevel (s : State) : Bool × State :=
  match s.script.levels with
  | b :: rest => (b, s.setScript { s.script with levels := rest })
  | [] => (Config.busLevel s.calls, s)

/-- `bus.get(line)`; the ACK level read includes the block's own drive (45_dma_scsi_handshake.md R491; DEDUCED,
unsafe; log 5). -/
def busGet (l : Line) (s : State) : Bool × State :=
  let a := takeLevel (call s (.busGet l))
  (if l = .ack then a.1 || ackOut s.scsi else a.1, a.2)

/-- `bus.get_data()`. -/
def busGetData (s : State) : Byte × State :=
  let s := call s .busGetData
  match s.script.bytes with
  | b :: rest => (b, s.setScript { s.script with bytes := rest })
  | [] => (Config.busData s.calls, s)

/-- `bus.service()`. -/
def busService (s : State) : ServiceAnswer × State :=
  let s := call s .busService
  match s.script.services with
  | a :: rest => (a, s.setScript { s.script with services := rest })
  | [] => (Config.busService s.calls, s)

/-- `bus.next_event()`. -/
def busNextEvent (s : State) : Option Nat × State :=
  let s := call s .busNextEvent
  match s.script.nextEvents with
  | a :: rest => (atLeastOne a, s.setScript { s.script with nextEvents := rest })
  | [] => (atLeastOne (Config.busNextEvent s.calls), s)

/-- `tilemix.run(k, emit)`: no entry when emit = 0 (46_host_operations.md R536; log 13). -/
def tileRun (k : Nat) (emit : Bool) (s : State) : List TileEntry × State :=
  let s := call s (.tileRun k emit)
  match emit, s.script.tiles with
  | false, _ => ([], s)
  | true, a :: rest => (a, s.setScript { s.script with tiles := rest })
  | true, [] => (Config.tileRun s.calls, s)

/-- `ovl.decode_block(bank, addr)`. -/
def ovlDecodeBlock (bank : Bool) (addr : KAddr) (s : State) : Nat × State :=
  let s := call s (.ovlDecodeBlock bank addr)
  match s.script.blocks with
  | a :: rest => (a, s.setScript { s.script with blocks := rest })
  | [] => (Config.ovlDecodeBlock s.calls s.kram, s)

/-- IDX(v) has v in 1..255: "pixel value 0 is always transparent" (44_compositor.md R441; log 13). -/
def PixEntry.proper : PixEntry → PixEntry
  | .transparent => .transparent
  | .idx v => if v = 0 then .transparent else .idx v
  | .direct y => .direct y

/-- A row of exactly W_MAX proper entries: cut, or continued TRANSPARENT (46_host_operations.md R536; log 13). -/
def fitRow (c : Params) (row : List PixEntry) : List PixEntry :=
  ((row.map PixEntry.proper) ++ clearRow c).take c.wMax

/-- Four such rows. -/
def fitRows (c : Params) (r : BgRows) : BgRows :=
  { bg0 := fitRow c r.bg0, bg1 := fitRow c r.bg1, bg2 := fitRow c r.bg2, bg3 := fitRow c r.bg3 }

/-- A tile buffer of exactly W_MAX entries. -/
def fitTiles (c : Params) (row : List TileEntry) : List TileEntry := (row ++ clearTiles c).take c.wMax

/-- `ovl.fetch_raster(line, base)`. -/
def ovlFetchRaster (line : BitVec 9) (base : BitVec 10) (s : State) : List PixEntry × State :=
  let s := call s (.ovlFetchRaster line base)
  match s.script.rasters with
  | a :: rest => (fitRow s.cfg a, s.setScript { s.script with rasters := rest })
  | [] => (fitRow s.cfg (Config.ovlFetchRaster s.calls s.kram), s)

/-- BGSTATE at this moment (42_timing_scheduler.md R371). -/
def bgState (s : State) : BgState := { regs := s.bg, mpctl := s.mp.ctl, mprog := s.mp.prog }

/-- `bgr.render(line, BGSTATE, KRAM)`. -/
def bgRender (line : BitVec 9) (s : State) : BgRows × State :=
  let s := call s (.bgRender line (bgState s) s.kram)
  match s.script.renders with
  | a :: rest => (fitRows s.cfg a, s.setScript { s.script with renders := rest })
  | [] => (fitRows s.cfg (Config.bgRender s.calls), s)

/-! Bus outputs (10_state.md R76). -/

/-- Forward one output if its level changed. -/
def forwardLine (l : Line) (before after : Bool) (s : State) : State :=
  if before = after then s else call s (.busSet l after)

/-- Forward the data output: the drive if it changed, and the byte if it is newly driven or changed
(DESIGN CHOICE, safe; log 10). -/
def forwardData (before after : Scsi) (s : State) : State :=
  let s := forwardLine .data (dataDriven before) (dataDriven after) s
  if dataDriven after ∧ (dataDriven before = false ∨ before.sout ≠ after.sout) then
    call s (.busSetData after.sout)
  else s

/-- Forward every output whose level changed, in the order RST, BSY, SEL, ATN, ACK, data
(41_memory_dma_registers.md R271). -/
def forwardOutputs (before after : Scsi) (s : State) : State :=
  forwardData before after
    (forwardLine .ack (ackOut before) (ackOut after)
      (forwardLine .atn (atnOut before) (atnOut after)
        (forwardLine .sel (selOut before) (selOut after)
          (forwardLine .bsy (bsyOut before) (bsyOut after)
            (forwardLine .rst (rstOut before) (rstOut after) s)))))

/-- HS_ACK <- level, the ACK change forwarded (10_state.md R76). -/
def setHsAck (level : Bool) (s : State) : State :=
  let b := { s.scsi with hsAck := level }
  forwardLine .ack (ackOut s.scsi) (ackOut b) (s.setScsi b)

/-! The interrupt output. -/

/-- Re-evaluate IRQ: tell the host when the level changed (60_exceptions.md R551; log 17). -/
def reevalIrq (s : State) : State :=
  if irqLevel s = s.lastIrq then s
  else (call s (.setIrq (irqLevel s))).setLastIrq (irqLevel s)

/-! KRAM through the CPU cursors (41_memory_dma_registers.md R296, R297). -/

/-- Write a word at KRAMWA in BANK_CPU and move the cursor by its step. -/
def cursorWrite (v : Word) (s : State) : State :=
  (s.setKram (memWrite s.kram (bankCpu s.kctl) (cursorAddr s.kctl.wa) v)).setKctl
    { s.kctl with wa := cursorNext s.kctl.wa }

/-- The word at KRAMRA in BANK_CPU. -/
def cursorPeek (s : State) : Word := memRead s.kram (bankCpu s.kctl) (cursorAddr s.kctl.ra)

/-- Move KRAMRA by its step. -/
def cursorAdvance (s : State) : State := s.setKctl { s.kctl with ra := cursorNext s.kctl.ra }

/-! How a request completes: its return value is set, then IRQ is re-evaluated (46_host_operations.md R530, R532,
R541; 60_exceptions.md R551). -/

/-- A request that returns nothing. -/
def complete (s : State) : Host.Outcome State Fault Refusal := .next (reevalIrq (s.setReply .nothing))

/-- A request that returns the 16-bit value `r`. -/
def answer (r : Word) (s : State) : Host.Outcome State Fault Refusal := .next (reevalIrq (s.setReply (.word r)))

/-! Register accesses. -/

/-- A low-half write of a directly stored controller register (40_controller_registers.md R201). -/
def storeC (r : CReg) (v : Word) (s : State) : Host.Outcome State Fault Refusal :=
  complete (s.setPic (cStore s.pic r v))

/-- A low-half read of a directly stored controller register (40_controller_registers.md R201). -/
def loadC (r : CReg) (s : State) : Host.Outcome State Fault Refusal := answer (cRead s.pic r) s

/-- `play.notify(register, value)` when the register is one of the playback engine's
(41_memory_dma_registers.md R330, R332; either half: DEDUCED, safe; log 16). -/
def notifyPlay (r : KReg) (s : State) : State :=
  match kNotifies r with
  | some p => call s (.playNotify p (kRead s r))
  | none => s

/-- A low-half write of a directly stored memory/DMA register (41_memory_dma_registers.md R260). -/
def storeLo (r : KReg) (v : Word) (s : State) : Host.Outcome State Fault Refusal :=
  complete (notifyPlay r (kStoreLo s r v))

/-- A high-half write of a directly stored memory/DMA register (41_memory_dma_registers.md R260). -/
def storeHi (r : KReg) (v : Word) (s : State) : Host.Outcome State Fault Refusal :=
  complete (notifyPlay r (kStoreHi s r v))

/-- A low-half read of a directly stored memory/DMA register (41_memory_dma_registers.md R260). -/
def loadLo (r : KReg) (s : State) : Host.Outcome State Fault Refusal := answer (halfLo (kRead s r)) s

/-- A high-half read of a directly stored memory/DMA register (41_memory_dma_registers.md R260). -/
def loadHi (r : KReg) (s : State) : Host.Outcome State Fault Refusal := answer (halfHi (kRead s r)) s

/-- A write with no effect (20_memory.md R104; 40_controller_registers.md R202, R204, R211;
41_memory_dma_registers.md R263, R264). -/
def inertWrite (s : State) : Host.Outcome State Fault Refusal := complete s

/-- A read of 0 with no effect (40_controller_registers.md R204, R210; 41_memory_dma_registers.md R264). -/
def inertRead (s : State) : Host.Outcome State Fault Refusal := answer 0 s

/-- A read of an unknown sub-register or of no space (20_memory.md R104; 40_controller_registers.md R202;
41_memory_dma_registers.md R263): UNKNOWN_READ_VALUE, no effect. -/
def unknownRead (s : State) : Host.Outcome State Fault Refusal := answer s.cfg.unknownRead s

end Sys2Proof.Machine
end

