-- ==== Sys2Proof/Machine/BackgroundRegs.lean ====
section
/-! DEFINITION. The meanings of the microprogram and background rows (41_memory_dma_registers.md R310 to R320). -/

namespace Sys2Proof.Machine

/-- MPROG[i]. -/
def mprogGet (p : Vector Word 16) (i : BitVec 4) : Word := p[i.toNat]'(by have := i.isLt; omega)

/-- MPROG[i] <- v. -/
def mprogSet (p : Vector Word 16) (i : BitVec 4) (v : Word) : Vector Word 16 :=
  p.set i.toNat v (by have := i.isLt; omega)

/-- WR.MPADDR.LO (41_memory_dma_registers.md R310, R260). -/
def execWrMpaddrLo (v : Word) (s : State) : Host.Outcome State Fault Refusal := storeLo .mpaddr v s

/-- RD.MPADDR.LO (41_memory_dma_registers.md R310, R260). -/
def execRdMpaddrLo (s : State) : Host.Outcome State Fault Refusal := loadLo .mpaddr s

/-- WR.MPADDR.HI (41_memory_dma_registers.md R310, R260). -/
def execWrMpaddrHi (v : Word) (s : State) : Host.Outcome State Fault Refusal := storeHi .mpaddr v s

/-- RD.MPADDR.HI (41_memory_dma_registers.md R310, R260). -/
def execRdMpaddrHi (s : State) : Host.Outcome State Fault Refusal := loadHi .mpaddr s

/-- WR.MPDATA.LO (41_memory_dma_registers.md R311). -/
def execWrMpdataLo (v : Word) (s : State) : Host.Outcome State Fault Refusal := 
  complete (s.setMp { s.mp with prog := mprogSet s.mp.prog s.mp.addr v, addr := s.mp.addr + 1 })

/-- RD.MPDATA.LO (41_memory_dma_registers.md R312). -/
def execRdMpdataLo (s : State) : Host.Outcome State Fault Refusal := answer (mprogGet s.mp.prog s.mp.addr) s

/-- WR.MPDATA.HI (41_memory_dma_registers.md R264). -/
def execWrMpdataHi (_v : Word) (s : State) : Host.Outcome State Fault Refusal := inertWrite s

/-- RD.MPDATA.HI (41_memory_dma_registers.md R264). -/
def execRdMpdataHi (s : State) : Host.Outcome State Fault Refusal := inertRead s

/-- WR.MPCTL.LO (41_memory_dma_registers.md R313, R260). -/
def execWrMpctlLo (v : Word) (s : State) : Host.Outcome State Fault Refusal := storeLo .mpctl v s

/-- RD.MPCTL.LO (41_memory_dma_registers.md R313, R260). -/
def execRdMpctlLo (s : State) : Host.Outcome State Fault Refusal := loadLo .mpctl s

/-- WR.MPCTL.HI (41_memory_dma_registers.md R313, R260). -/
def execWrMpctlHi (v : Word) (s : State) : Host.Outcome State Fault Refusal := storeHi .mpctl v s

/-- RD.MPCTL.HI (41_memory_dma_registers.md R313, R260). -/
def execRdMpctlHi (s : State) : Host.Outcome State Fault Refusal := loadHi .mpctl s

/-- WR.BGENDLESS.LO (41_memory_dma_registers.md R315, R260). -/
def execWrBgendlessLo (v : Word) (s : State) : Host.Outcome State Fault Refusal := storeLo .bgendless v s

/-- RD.BGENDLESS.LO (41_memory_dma_registers.md R315, R260). -/
def execRdBgendlessLo (s : State) : Host.Outcome State Fault Refusal := loadLo .bgendless s

/-- WR.BGENDLESS.HI (41_memory_dma_registers.md R315, R260). -/
def execWrBgendlessHi (v : Word) (s : State) : Host.Outcome State Fault Refusal := storeHi .bgendless v s

/-- RD.BGENDLESS.HI (41_memory_dma_registers.md R315, R260). -/
def execRdBgendlessHi (s : State) : Host.Outcome State Fault Refusal := loadHi .bgendless s

/-- WR.BGMODE.LO (41_memory_dma_registers.md R316, R260). -/
def execWrBgmodeLo (v : Word) (s : State) : Host.Outcome State Fault Refusal := storeLo .bgmode v s

/-- RD.BGMODE.LO (41_memory_dma_registers.md R316, R260). -/
def execRdBgmodeLo (s : State) : Host.Outcome State Fault Refusal := loadLo .bgmode s

/-- WR.BGMODE.HI (41_memory_dma_registers.md R316, R260). -/
def execWrBgmodeHi (v : Word) (s : State) : Host.Outcome State Fault Refusal := storeHi .bgmode v s

/-- RD.BGMODE.HI (41_memory_dma_registers.md R316, R260). -/
def execRdBgmodeHi (s : State) : Host.Outcome State Fault Refusal := loadHi .bgmode s

/-- WR.BAT0.LO (41_memory_dma_registers.md R317, R260). -/
def execWrBat0Lo (v : Word) (s : State) : Host.Outcome State Fault Refusal := storeLo .bat0 v s

/-- RD.BAT0.LO (41_memory_dma_registers.md R317, R260). -/
def execRdBat0Lo (s : State) : Host.Outcome State Fault Refusal := loadLo .bat0 s

/-- WR.BAT0.HI (41_memory_dma_registers.md R317, R260). -/
def execWrBat0Hi (v : Word) (s : State) : Host.Outcome State Fault Refusal := storeHi .bat0 v s

/-- RD.BAT0.HI (41_memory_dma_registers.md R317, R260). -/
def execRdBat0Hi (s : State) : Host.Outcome State Fault Refusal := loadHi .bat0 s

/-- WR.BAT1.LO (41_memory_dma_registers.md R317, R260). -/
def execWrBat1Lo (v : Word) (s : State) : Host.Outcome State Fault Refusal := storeLo .bat1 v s

/-- RD.BAT1.LO (41_memory_dma_registers.md R317, R260). -/
def execRdBat1Lo (s : State) : Host.Outcome State Fault Refusal := loadLo .bat1 s

/-- WR.BAT1.HI (41_memory_dma_registers.md R317, R260). -/
def execWrBat1Hi (v : Word) (s : State) : Host.Outcome State Fault Refusal := storeHi .bat1 v s

/-- RD.BAT1.HI (41_memory_dma_registers.md R317, R260). -/
def execRdBat1Hi (s : State) : Host.Outcome State Fault Refusal := loadHi .bat1 s

/-- WR.BAT2.LO (41_memory_dma_registers.md R317, R260). -/
def execWrBat2Lo (v : Word) (s : State) : Host.Outcome State Fault Refusal := storeLo .bat2 v s

/-- RD.BAT2.LO (41_memory_dma_registers.md R317, R260). -/
def execRdBat2Lo (s : State) : Host.Outcome State Fault Refusal := loadLo .bat2 s

/-- WR.BAT2.HI (41_memory_dma_registers.md R317, R260). -/
def execWrBat2Hi (v : Word) (s : State) : Host.Outcome State Fault Refusal := storeHi .bat2 v s

/-- RD.BAT2.HI (41_memory_dma_registers.md R317, R260). -/
def execRdBat2Hi (s : State) : Host.Outcome State Fault Refusal := loadHi .bat2 s

/-- WR.BAT3.LO (41_memory_dma_registers.md R317, R260). -/
def execWrBat3Lo (v : Word) (s : State) : Host.Outcome State Fault Refusal := storeLo .bat3 v s

/-- RD.BAT3.LO (41_memory_dma_registers.md R317, R260). -/
def execRdBat3Lo (s : State) : Host.Outcome State Fault Refusal := loadLo .bat3 s

/-- WR.BAT3.HI (41_memory_dma_registers.md R317, R260). -/
def execWrBat3Hi (v : Word) (s : State) : Host.Outcome State Fault Refusal := storeHi .bat3 v s

/-- RD.BAT3.HI (41_memory_dma_registers.md R317, R260). -/
def execRdBat3Hi (s : State) : Host.Outcome State Fault Refusal := loadHi .bat3 s

/-- WR.CG0.LO (41_memory_dma_registers.md R317, R260). -/
def execWrCg0Lo (v : Word) (s : State) : Host.Outcome State Fault Refusal := storeLo .cg0 v s

/-- RD.CG0.LO (41_memory_dma_registers.md R317, R260). -/
def execRdCg0Lo (s : State) : Host.Outcome State Fault Refusal := loadLo .cg0 s

/-- WR.CG0.HI (41_memory_dma_registers.md R317, R260). -/
def execWrCg0Hi (v : Word) (s : State) : Host.Outcome State Fault Refusal := storeHi .cg0 v s

/-- RD.CG0.HI (41_memory_dma_registers.md R317, R260). -/
def execRdCg0Hi (s : State) : Host.Outcome State Fault Refusal := loadHi .cg0 s

/-- WR.CG1.LO (41_memory_dma_registers.md R317, R260). -/
def execWrCg1Lo (v : Word) (s : State) : Host.Outcome State Fault Refusal := storeLo .cg1 v s

/-- RD.CG1.LO (41_memory_dma_registers.md R317, R260). -/
def execRdCg1Lo (s : State) : Host.Outcome State Fault Refusal := loadLo .cg1 s

/-- WR.CG1.HI (41_memory_dma_registers.md R317, R260). -/
def execWrCg1Hi (v : Word) (s : State) : Host.Outcome State Fault Refusal := storeHi .cg1 v s

/-- RD.CG1.HI (41_memory_dma_registers.md R317, R260). -/
def execRdCg1Hi (s : State) : Host.Outcome State Fault Refusal := loadHi .cg1 s

/-- WR.CG2.LO (41_memory_dma_registers.md R317, R260). -/
def execWrCg2Lo (v : Word) (s : State) : Host.Outcome State Fault Refusal := storeLo .cg2 v s

/-- RD.CG2.LO (41_memory_dma_registers.md R317, R260). -/
def execRdCg2Lo (s : State) : Host.Outcome State Fault Refusal := loadLo .cg2 s

/-- WR.CG2.HI (41_memory_dma_registers.md R317, R260). -/
def execWrCg2Hi (v : Word) (s : State) : Host.Outcome State Fault Refusal := storeHi .cg2 v s

/-- RD.CG2.HI (41_memory_dma_registers.md R317, R260). -/
def execRdCg2Hi (s : State) : Host.Outcome State Fault Refusal := loadHi .cg2 s

/-- WR.CG3.LO (41_memory_dma_registers.md R317, R260). -/
def execWrCg3Lo (v : Word) (s : State) : Host.Outcome State Fault Refusal := storeLo .cg3 v s

/-- RD.CG3.LO (41_memory_dma_registers.md R317, R260). -/
def execRdCg3Lo (s : State) : Host.Outcome State Fault Refusal := loadLo .cg3 s

/-- WR.CG3.HI (41_memory_dma_registers.md R317, R260). -/
def execWrCg3Hi (v : Word) (s : State) : Host.Outcome State Fault Refusal := storeHi .cg3 v s

/-- RD.CG3.HI (41_memory_dma_registers.md R317, R260). -/
def execRdCg3Hi (s : State) : Host.Outcome State Fault Refusal := loadHi .cg3 s

/-- WR.SUBBAT0.LO (41_memory_dma_registers.md R317, R260). -/
def execWrSubbat0Lo (v : Word) (s : State) : Host.Outcome State Fault Refusal := storeLo .subbat0 v s

/-- RD.SUBBAT0.LO (41_memory_dma_registers.md R317, R260). -/
def execRdSubbat0Lo (s : State) : Host.Outcome State Fault Refusal := loadLo .subbat0 s

/-- WR.SUBBAT0.HI (41_memory_dma_registers.md R317, R260). -/
def execWrSubbat0Hi (v : Word) (s : State) : Host.Outcome State Fault Refusal := storeHi .subbat0 v s

/-- RD.SUBBAT0.HI (41_memory_dma_registers.md R317, R260). -/
def execRdSubbat0Hi (s : State) : Host.Outcome State Fault Refusal := loadHi .subbat0 s

/-- WR.SUBBAT1.LO (41_memory_dma_registers.md R317, R260). -/
def execWrSubbat1Lo (v : Word) (s : State) : Host.Outcome State Fault Refusal := storeLo .subbat1 v s

/-- RD.SUBBAT1.LO (41_memory_dma_registers.md R317, R260). -/
def execRdSubbat1Lo (s : State) : Host.Outcome State Fault Refusal := loadLo .subbat1 s

/-- WR.SUBBAT1.HI (41_memory_dma_registers.md R317, R260). -/
def execWrSubbat1Hi (v : Word) (s : State) : Host.Outcome State Fault Refusal := storeHi .subbat1 v s

/-- RD.SUBBAT1.HI (41_memory_dma_registers.md R317, R260). -/
def execRdSubbat1Hi (s : State) : Host.Outcome State Fault Refusal := loadHi .subbat1 s

/-- WR.SUBBAT2.LO (41_memory_dma_registers.md R317, R260). -/
def execWrSubbat2Lo (v : Word) (s : State) : Host.Outcome State Fault Refusal := storeLo .subbat2 v s

/-- RD.SUBBAT2.LO (41_memory_dma_registers.md R317, R260). -/
def execRdSubbat2Lo (s : State) : Host.Outcome State Fault Refusal := loadLo .subbat2 s

/-- WR.SUBBAT2.HI (41_memory_dma_registers.md R317, R260). -/
def execWrSubbat2Hi (v : Word) (s : State) : Host.Outcome State Fault Refusal := storeHi .subbat2 v s

/-- RD.SUBBAT2.HI (41_memory_dma_registers.md R317, R260). -/
def execRdSubbat2Hi (s : State) : Host.Outcome State Fault Refusal := loadHi .subbat2 s

/-- WR.SUBBAT3.LO (41_memory_dma_registers.md R317, R260). -/
def execWrSubbat3Lo (v : Word) (s : State) : Host.Outcome State Fault Refusal := storeLo .subbat3 v s

/-- RD.SUBBAT3.LO (41_memory_dma_registers.md R317, R260). -/
def execRdSubbat3Lo (s : State) : Host.Outcome State Fault Refusal := loadLo .subbat3 s

/-- WR.SUBBAT3.HI (41_memory_dma_registers.md R317, R260). -/
def execWrSubbat3Hi (v : Word) (s : State) : Host.Outcome State Fault Refusal := storeHi .subbat3 v s

/-- RD.SUBBAT3.HI (41_memory_dma_registers.md R317, R260). -/
def execRdSubbat3Hi (s : State) : Host.Outcome State Fault Refusal := loadHi .subbat3 s

/-- WR.SUBCG0.LO (41_memory_dma_registers.md R317, R260). -/
def execWrSubcg0Lo (v : Word) (s : State) : Host.Outcome State Fault Refusal := storeLo .subcg0 v s

/-- RD.SUBCG0.LO (41_memory_dma_registers.md R317, R260). -/
def execRdSubcg0Lo (s : State) : Host.Outcome State Fault Refusal := loadLo .subcg0 s

/-- WR.SUBCG0.HI (41_memory_dma_registers.md R317, R260). -/
def execWrSubcg0Hi (v : Word) (s : State) : Host.Outcome State Fault Refusal := storeHi .subcg0 v s

/-- RD.SUBCG0.HI (41_memory_dma_registers.md R317, R260). -/
def execRdSubcg0Hi (s : State) : Host.Outcome State Fault Refusal := loadHi .subcg0 s

/-- WR.SUBCG1.LO (41_memory_dma_registers.md R317, R260). -/
def execWrSubcg1Lo (v : Word) (s : State) : Host.Outcome State Fault Refusal := storeLo .subcg1 v s

/-- RD.SUBCG1.LO (41_memory_dma_registers.md R317, R260). -/
def execRdSubcg1Lo (s : State) : Host.Outcome State Fault Refusal := loadLo .subcg1 s

/-- WR.SUBCG1.HI (41_memory_dma_registers.md R317, R260). -/
def execWrSubcg1Hi (v : Word) (s : State) : Host.Outcome State Fault Refusal := storeHi .subcg1 v s

/-- RD.SUBCG1.HI (41_memory_dma_registers.md R317, R260). -/
def execRdSubcg1Hi (s : State) : Host.Outcome State Fault Refusal := loadHi .subcg1 s

/-- WR.SUBCG2.LO (41_memory_dma_registers.md R317, R260). -/
def execWrSubcg2Lo (v : Word) (s : State) : Host.Outcome State Fault Refusal := storeLo .subcg2 v s

/-- RD.SUBCG2.LO (41_memory_dma_registers.md R317, R260). -/
def execRdSubcg2Lo (s : State) : Host.Outcome State Fault Refusal := loadLo .subcg2 s

/-- WR.SUBCG2.HI (41_memory_dma_registers.md R317, R260). -/
def execWrSubcg2Hi (v : Word) (s : State) : Host.Outcome State Fault Refusal := storeHi .subcg2 v s

/-- RD.SUBCG2.HI (41_memory_dma_registers.md R317, R260). -/
def execRdSubcg2Hi (s : State) : Host.Outcome State Fault Refusal := loadHi .subcg2 s

/-- WR.SUBCG3.LO (41_memory_dma_registers.md R317, R260). -/
def execWrSubcg3Lo (v : Word) (s : State) : Host.Outcome State Fault Refusal := storeLo .subcg3 v s

/-- RD.SUBCG3.LO (41_memory_dma_registers.md R317, R260). -/
def execRdSubcg3Lo (s : State) : Host.Outcome State Fault Refusal := loadLo .subcg3 s

/-- WR.SUBCG3.HI (41_memory_dma_registers.md R317, R260). -/
def execWrSubcg3Hi (v : Word) (s : State) : Host.Outcome State Fault Refusal := storeHi .subcg3 v s

/-- RD.SUBCG3.HI (41_memory_dma_registers.md R317, R260). -/
def execRdSubcg3Hi (s : State) : Host.Outcome State Fault Refusal := loadHi .subcg3 s

/-- WR.SCRX0.LO (41_memory_dma_registers.md R318, R260). -/
def execWrScrx0Lo (v : Word) (s : State) : Host.Outcome State Fault Refusal := storeLo .scrx0 v s

/-- RD.SCRX0.LO (41_memory_dma_registers.md R318, R260). -/
def execRdScrx0Lo (s : State) : Host.Outcome State Fault Refusal := loadLo .scrx0 s

/-- WR.SCRX0.HI (41_memory_dma_registers.md R318, R260). -/
def execWrScrx0Hi (v : Word) (s : State) : Host.Outcome State Fault Refusal := storeHi .scrx0 v s

/-- RD.SCRX0.HI (41_memory_dma_registers.md R318, R260). -/
def execRdScrx0Hi (s : State) : Host.Outcome State Fault Refusal := loadHi .scrx0 s

/-- WR.SCRY0.LO (41_memory_dma_registers.md R318, R260). -/
def execWrScry0Lo (v : Word) (s : State) : Host.Outcome State Fault Refusal := storeLo .scry0 v s

/-- RD.SCRY0.LO (41_memory_dma_registers.md R318, R260). -/
def execRdScry0Lo (s : State) : Host.Outcome State Fault Refusal := loadLo .scry0 s

/-- WR.SCRY0.HI (41_memory_dma_registers.md R318, R260). -/
def execWrScry0Hi (v : Word) (s : State) : Host.Outcome State Fault Refusal := storeHi .scry0 v s

/-- RD.SCRY0.HI (41_memory_dma_registers.md R318, R260). -/
def execRdScry0Hi (s : State) : Host.Outcome State Fault Refusal := loadHi .scry0 s

/-- WR.SCRX1.LO (41_memory_dma_registers.md R318, R260). -/
def execWrScrx1Lo (v : Word) (s : State) : Host.Outcome State Fault Refusal := storeLo .scrx1 v s

/-- RD.SCRX1.LO (41_memory_dma_registers.md R318, R260). -/
def execRdScrx1Lo (s : State) : Host.Outcome State Fault Refusal := loadLo .scrx1 s

/-- WR.SCRX1.HI (41_memory_dma_registers.md R318, R260). -/
def execWrScrx1Hi (v : Word) (s : State) : Host.Outcome State Fault Refusal := storeHi .scrx1 v s

/-- RD.SCRX1.HI (41_memory_dma_registers.md R318, R260). -/
def execRdScrx1Hi (s : State) : Host.Outcome State Fault Refusal := loadHi .scrx1 s

/-- WR.SCRY1.LO (41_memory_dma_registers.md R318, R260). -/
def execWrScry1Lo (v : Word) (s : State) : Host.Outcome State Fault Refusal := storeLo .scry1 v s

/-- RD.SCRY1.LO (41_memory_dma_registers.md R318, R260). -/
def execRdScry1Lo (s : State) : Host.Outcome State Fault Refusal := loadLo .scry1 s

/-- WR.SCRY1.HI (41_memory_dma_registers.md R318, R260). -/
def execWrScry1Hi (v : Word) (s : State) : Host.Outcome State Fault Refusal := storeHi .scry1 v s

/-- RD.SCRY1.HI (41_memory_dma_registers.md R318, R260). -/
def execRdScry1Hi (s : State) : Host.Outcome State Fault Refusal := loadHi .scry1 s

/-- WR.SCRX2.LO (41_memory_dma_registers.md R318, R260). -/
def execWrScrx2Lo (v : Word) (s : State) : Host.Outcome State Fault Refusal := storeLo .scrx2 v s

/-- RD.SCRX2.LO (41_memory_dma_registers.md R318, R260). -/
def execRdScrx2Lo (s : State) : Host.Outcome State Fault Refusal := loadLo .scrx2 s

/-- WR.SCRX2.HI (41_memory_dma_registers.md R318, R260). -/
def execWrScrx2Hi (v : Word) (s : State) : Host.Outcome State Fault Refusal := storeHi .scrx2 v s

/-- RD.SCRX2.HI (41_memory_dma_registers.md R318, R260). -/
def execRdScrx2Hi (s : State) : Host.Outcome State Fault Refusal := loadHi .scrx2 s

/-- WR.SCRY2.LO (41_memory_dma_registers.md R318, R260). -/
def execWrScry2Lo (v : Word) (s : State) : Host.Outcome State Fault Refusal := storeLo .scry2 v s

/-- RD.SCRY2.LO (41_memory_dma_registers.md R318, R260). -/
def execRdScry2Lo (s : State) : Host.Outcome State Fault Refusal := loadLo .scry2 s

/-- WR.SCRY2.HI (41_memory_dma_registers.md R318, R260). -/
def execWrScry2Hi (v : Word) (s : State) : Host.Outcome State Fault Refusal := storeHi .scry2 v s

/-- RD.SCRY2.HI (41_memory_dma_registers.md R318, R260). -/
def execRdScry2Hi (s : State) : Host.Outcome State Fault Refusal := loadHi .scry2 s

/-- WR.SCRX3.LO (41_memory_dma_registers.md R318, R260). -/
def execWrScrx3Lo (v : Word) (s : State) : Host.Outcome State Fault Refusal := storeLo .scrx3 v s

/-- RD.SCRX3.LO (41_memory_dma_registers.md R318, R260). -/
def execRdScrx3Lo (s : State) : Host.Outcome State Fault Refusal := loadLo .scrx3 s

/-- WR.SCRX3.HI (41_memory_dma_registers.md R318, R260). -/
def execWrScrx3Hi (v : Word) (s : State) : Host.Outcome State Fault Refusal := storeHi .scrx3 v s

/-- RD.SCRX3.HI (41_memory_dma_registers.md R318, R260). -/
def execRdScrx3Hi (s : State) : Host.Outcome State Fault Refusal := loadHi .scrx3 s

/-- WR.SCRY3.LO (41_memory_dma_registers.md R318, R260). -/
def execWrScry3Lo (v : Word) (s : State) : Host.Outcome State Fault Refusal := storeLo .scry3 v s

/-- RD.SCRY3.LO (41_memory_dma_registers.md R318, R260). -/
def execRdScry3Lo (s : State) : Host.Outcome State Fault Refusal := loadLo .scry3 s

/-- WR.SCRY3.HI (41_memory_dma_registers.md R318, R260). -/
def execWrScry3Hi (v : Word) (s : State) : Host.Outcome State Fault Refusal := storeHi .scry3 v s

/-- RD.SCRY3.HI (41_memory_dma_registers.md R318, R260). -/
def execRdScry3Hi (s : State) : Host.Outcome State Fault Refusal := loadHi .scry3 s

/-- WR.AFFA.LO (41_memory_dma_registers.md R319, R260). -/
def execWrAffaLo (v : Word) (s : State) : Host.Outcome State Fault Refusal := storeLo .affa v s

/-- RD.AFFA.LO (41_memory_dma_registers.md R319, R260). -/
def execRdAffaLo (s : State) : Host.Outcome State Fault Refusal := loadLo .affa s

/-- WR.AFFA.HI (41_memory_dma_registers.md R319, R260). -/
def execWrAffaHi (v : Word) (s : State) : Host.Outcome State Fault Refusal := storeHi .affa v s

/-- RD.AFFA.HI (41_memory_dma_registers.md R319, R260). -/
def execRdAffaHi (s : State) : Host.Outcome State Fault Refusal := loadHi .affa s

/-- WR.AFFB.LO (41_memory_dma_registers.md R319, R260). -/
def execWrAffbLo (v : Word) (s : State) : Host.Outcome State Fault Refusal := storeLo .affb v s

/-- RD.AFFB.LO (41_memory_dma_registers.md R319, R260). -/
def execRdAffbLo (s : State) : Host.Outcome State Fault Refusal := loadLo .affb s

/-- WR.AFFB.HI (41_memory_dma_registers.md R319, R260). -/
def execWrAffbHi (v : Word) (s : State) : Host.Outcome State Fault Refusal := storeHi .affb v s

/-- RD.AFFB.HI (41_memory_dma_registers.md R319, R260). -/
def execRdAffbHi (s : State) : Host.Outcome State Fault Refusal := loadHi .affb s

/-- WR.AFFC.LO (41_memory_dma_registers.md R319, R260). -/
def execWrAffcLo (v : Word) (s : State) : Host.Outcome State Fault Refusal := storeLo .affc v s

/-- RD.AFFC.LO (41_memory_dma_registers.md R319, R260). -/
def execRdAffcLo (s : State) : Host.Outcome State Fault Refusal := loadLo .affc s

/-- WR.AFFC.HI (41_memory_dma_registers.md R319, R260). -/
def execWrAffcHi (v : Word) (s : State) : Host.Outcome State Fault Refusal := storeHi .affc v s

/-- RD.AFFC.HI (41_memory_dma_registers.md R319, R260). -/
def execRdAffcHi (s : State) : Host.Outcome State Fault Refusal := loadHi .affc s

/-- WR.AFFD.LO (41_memory_dma_registers.md R319, R260). -/
def execWrAffdLo (v : Word) (s : State) : Host.Outcome State Fault Refusal := storeLo .affd v s

/-- RD.AFFD.LO (41_memory_dma_registers.md R319, R260). -/
def execRdAffdLo (s : State) : Host.Outcome State Fault Refusal := loadLo .affd s

/-- WR.AFFD.HI (41_memory_dma_registers.md R319, R260). -/
def execWrAffdHi (v : Word) (s : State) : Host.Outcome State Fault Refusal := storeHi .affd v s

/-- RD.AFFD.HI (41_memory_dma_registers.md R319, R260). -/
def execRdAffdHi (s : State) : Host.Outcome State Fault Refusal := loadHi .affd s

/-- WR.CTRX.LO (41_memory_dma_registers.md R319, R260). -/
def execWrCtrxLo (v : Word) (s : State) : Host.Outcome State Fault Refusal := storeLo .ctrx v s

/-- RD.CTRX.LO (41_memory_dma_registers.md R319, R260). -/
def execRdCtrxLo (s : State) : Host.Outcome State Fault Refusal := loadLo .ctrx s

/-- WR.CTRX.HI (41_memory_dma_registers.md R319, R260). -/
def execWrCtrxHi (v : Word) (s : State) : Host.Outcome State Fault Refusal := storeHi .ctrx v s

/-- RD.CTRX.HI (41_memory_dma_registers.md R319, R260). -/
def execRdCtrxHi (s : State) : Host.Outcome State Fault Refusal := loadHi .ctrx s

/-- WR.CTRY.LO (41_memory_dma_registers.md R319, R260). -/
def execWrCtryLo (v : Word) (s : State) : Host.Outcome State Fault Refusal := storeLo .ctry v s

/-- RD.CTRY.LO (41_memory_dma_registers.md R319, R260). -/
def execRdCtryLo (s : State) : Host.Outcome State Fault Refusal := loadLo .ctry s

/-- WR.CTRY.HI (41_memory_dma_registers.md R319, R260). -/
def execWrCtryHi (v : Word) (s : State) : Host.Outcome State Fault Refusal := storeHi .ctry v s

/-- RD.CTRY.HI (41_memory_dma_registers.md R319, R260). -/
def execRdCtryHi (s : State) : Host.Outcome State Fault Refusal := loadHi .ctry s

/-- WR.BGSIZE0.LO (41_memory_dma_registers.md R320, R260). -/
def execWrBgsize0Lo (v : Word) (s : State) : Host.Outcome State Fault Refusal := storeLo .bgsize0 v s

/-- RD.BGSIZE0.LO (41_memory_dma_registers.md R320, R260). -/
def execRdBgsize0Lo (s : State) : Host.Outcome State Fault Refusal := loadLo .bgsize0 s

/-- WR.BGSIZE0.HI (41_memory_dma_registers.md R320, R260). -/
def execWrBgsize0Hi (v : Word) (s : State) : Host.Outcome State Fault Refusal := storeHi .bgsize0 v s

/-- RD.BGSIZE0.HI (41_memory_dma_registers.md R320, R260). -/
def execRdBgsize0Hi (s : State) : Host.Outcome State Fault Refusal := loadHi .bgsize0 s

/-- WR.BGSIZE1.LO (41_memory_dma_registers.md R320, R260). -/
def execWrBgsize1Lo (v : Word) (s : State) : Host.Outcome State Fault Refusal := storeLo .bgsize1 v s

/-- RD.BGSIZE1.LO (41_memory_dma_registers.md R320, R260). -/
def execRdBgsize1Lo (s : State) : Host.Outcome State Fault Refusal := loadLo .bgsize1 s

/-- WR.BGSIZE1.HI (41_memory_dma_registers.md R320, R260). -/
def execWrBgsize1Hi (v : Word) (s : State) : Host.Outcome State Fault Refusal := storeHi .bgsize1 v s

/-- RD.BGSIZE1.HI (41_memory_dma_registers.md R320, R260). -/
def execRdBgsize1Hi (s : State) : Host.Outcome State Fault Refusal := loadHi .bgsize1 s

/-- WR.BGSIZE2.LO (41_memory_dma_registers.md R320, R260). -/
def execWrBgsize2Lo (v : Word) (s : State) : Host.Outcome State Fault Refusal := storeLo .bgsize2 v s

/-- RD.BGSIZE2.LO (41_memory_dma_registers.md R320, R260). -/
def execRdBgsize2Lo (s : State) : Host.Outcome State Fault Refusal := loadLo .bgsize2 s

/-- WR.BGSIZE2.HI (41_memory_dma_registers.md R320, R260). -/
def execWrBgsize2Hi (v : Word) (s : State) : Host.Outcome State Fault Refusal := storeHi .bgsize2 v s

/-- RD.BGSIZE2.HI (41_memory_dma_registers.md R320, R260). -/
def execRdBgsize2Hi (s : State) : Host.Outcome State Fault Refusal := loadHi .bgsize2 s

/-- WR.BGSIZE3.LO (41_memory_dma_registers.md R320, R260). -/
def execWrBgsize3Lo (v : Word) (s : State) : Host.Outcome State Fault Refusal := storeLo .bgsize3 v s

/-- RD.BGSIZE3.LO (41_memory_dma_registers.md R320, R260). -/
def execRdBgsize3Lo (s : State) : Host.Outcome State Fault Refusal := loadLo .bgsize3 s

/-- WR.BGSIZE3.HI (41_memory_dma_registers.md R320, R260). -/
def execWrBgsize3Hi (v : Word) (s : State) : Host.Outcome State Fault Refusal := storeHi .bgsize3 v s

/-- RD.BGSIZE3.HI (41_memory_dma_registers.md R320, R260). -/
def execRdBgsize3Hi (s : State) : Host.Outcome State Fault Refusal := loadHi .bgsize3 s

end Sys2Proof.Machine
end

