-- ==== Sys2Proof/Machine/ControllerRegs.lean ====
section
/-! DEFINITION. The meanings of the controller-space rows (40_controller_registers.md). -/

namespace Sys2Proof.Machine

/-- WR.CAR (40_controller_registers.md R205). -/
def execWrCar (v : Word) (s : State) : Host.Outcome State Fault Refusal := complete (s.setCar (carOf v))

/-- RD.CSTAT (40_controller_registers.md R206). -/
def execRdCstat (s : State) : Host.Outcome State Fault Refusal := answer (controllerStatus s.timing) s

/-- WR.PMODE (40_controller_registers.md R207, R201). -/
def execWrPmode (v : Word) (s : State) : Host.Outcome State Fault Refusal := storeC .pmode v s

/-- RD.PMODE (40_controller_registers.md R207, R201). -/
def execRdPmode (s : State) : Host.Outcome State Fault Refusal := loadC .pmode s

/-- WR.PALADDR (40_controller_registers.md R208). -/
def execWrPaladdr (v : Word) (s : State) : Host.Outcome State Fault Refusal := 
  complete (s.setPalette (paletteSeek s.palette (v.extractLsb' 0 9)))

/-- RD.PALADDR (40_controller_registers.md R208). -/
def execRdPaladdr (s : State) : Host.Outcome State Fault Refusal := answer (s.palette.cur.setWidth 16) s

/-- WR.PALWDATA (40_controller_registers.md R209; 43_palette_yuv.md R411). -/
def execWrPalwdata (v : Word) (s : State) : Host.Outcome State Fault Refusal := 
  complete
    ((s.setPcache (pcacheSet s.pcache s.palette.cur (expand v))).setPalette (palettePush s.palette v))

/-- RD.PALWDATA (40_controller_registers.md R210). -/
def execRdPalwdata (s : State) : Host.Outcome State Fault Refusal := inertRead s

/-- WR.PALRDATA (40_controller_registers.md R211). -/
def execWrPalrdata (_v : Word) (s : State) : Host.Outcome State Fault Refusal := inertWrite s

/-- RD.PALRDATA (40_controller_registers.md R211). -/
def execRdPalrdata (s : State) : Host.Outcome State Fault Refusal := 
  answer s.palette.latch (s.setPalette (paletteAdvance s.palette))

/-- WR.PALOFS0 (40_controller_registers.md R213, R201). -/
def execWrPalofs0 (v : Word) (s : State) : Host.Outcome State Fault Refusal := storeC .palofs0 v s

/-- RD.PALOFS0 (40_controller_registers.md R213, R201). -/
def execRdPalofs0 (s : State) : Host.Outcome State Fault Refusal := loadC .palofs0 s

/-- WR.PALOFS1 (40_controller_registers.md R213, R201). -/
def execWrPalofs1 (v : Word) (s : State) : Host.Outcome State Fault Refusal := storeC .palofs1 v s

/-- RD.PALOFS1 (40_controller_registers.md R213, R201). -/
def execRdPalofs1 (s : State) : Host.Outcome State Fault Refusal := loadC .palofs1 s

/-- WR.PALOFS2 (40_controller_registers.md R213, R201). -/
def execWrPalofs2 (v : Word) (s : State) : Host.Outcome State Fault Refusal := storeC .palofs2 v s

/-- RD.PALOFS2 (40_controller_registers.md R213, R201). -/
def execRdPalofs2 (s : State) : Host.Outcome State Fault Refusal := loadC .palofs2 s

/-- WR.PALOFS3 (40_controller_registers.md R213, R201). -/
def execWrPalofs3 (v : Word) (s : State) : Host.Outcome State Fault Refusal := storeC .palofs3 v s

/-- RD.PALOFS3 (40_controller_registers.md R213, R201). -/
def execRdPalofs3 (s : State) : Host.Outcome State Fault Refusal := loadC .palofs3 s

/-- WR.PRIO0 (40_controller_registers.md R215, R201). -/
def execWrPrio0 (v : Word) (s : State) : Host.Outcome State Fault Refusal := storeC .prio0 v s

/-- RD.PRIO0 (40_controller_registers.md R215, R201). -/
def execRdPrio0 (s : State) : Host.Outcome State Fault Refusal := loadC .prio0 s

/-- WR.PRIO1 (40_controller_registers.md R215, R201). -/
def execWrPrio1 (v : Word) (s : State) : Host.Outcome State Fault Refusal := storeC .prio1 v s

/-- RD.PRIO1 (40_controller_registers.md R215, R201). -/
def execRdPrio1 (s : State) : Host.Outcome State Fault Refusal := loadC .prio1 s

/-- WR.KEYY (40_controller_registers.md R216, R201). -/
def execWrKeyy (v : Word) (s : State) : Host.Outcome State Fault Refusal := storeC .keyy v s

/-- RD.KEYY (40_controller_registers.md R216, R201). -/
def execRdKeyy (s : State) : Host.Outcome State Fault Refusal := loadC .keyy s

/-- WR.KEYU (40_controller_registers.md R216, R201). -/
def execWrKeyu (v : Word) (s : State) : Host.Outcome State Fault Refusal := storeC .keyu v s

/-- RD.KEYU (40_controller_registers.md R216, R201). -/
def execRdKeyu (s : State) : Host.Outcome State Fault Refusal := loadC .keyu s

/-- WR.KEYV (40_controller_registers.md R216, R201). -/
def execWrKeyv (v : Word) (s : State) : Host.Outcome State Fault Refusal := storeC .keyv v s

/-- RD.KEYV (40_controller_registers.md R216, R201). -/
def execRdKeyv (s : State) : Host.Outcome State Fault Refusal := loadC .keyv s

/-- WR.FIXCOL (40_controller_registers.md R217, R201). -/
def execWrFixcol (v : Word) (s : State) : Host.Outcome State Fault Refusal := storeC .fixcol v s

/-- RD.FIXCOL (40_controller_registers.md R217, R201). -/
def execRdFixcol (s : State) : Host.Outcome State Fault Refusal := loadC .fixcol s

/-- WR.CELCTL (40_controller_registers.md R218, R201). -/
def execWrCelctl (v : Word) (s : State) : Host.Outcome State Fault Refusal := storeC .celctl v s

/-- RD.CELCTL (40_controller_registers.md R218, R201). -/
def execRdCelctl (s : State) : Host.Outcome State Fault Refusal := loadC .celctl s

/-- WR.SPRMASK (40_controller_registers.md R219, R201). -/
def execWrSprmask (v : Word) (s : State) : Host.Outcome State Fault Refusal := storeC .sprmask v s

/-- RD.SPRMASK (40_controller_registers.md R219, R201). -/
def execRdSprmask (s : State) : Host.Outcome State Fault Refusal := loadC .sprmask s

/-- WR.COEF0 (40_controller_registers.md R220, R201). -/
def execWrCoef0 (v : Word) (s : State) : Host.Outcome State Fault Refusal := storeC .coef0 v s

/-- RD.COEF0 (40_controller_registers.md R220, R201). -/
def execRdCoef0 (s : State) : Host.Outcome State Fault Refusal := loadC .coef0 s

/-- WR.COEF1 (40_controller_registers.md R220, R201). -/
def execWrCoef1 (v : Word) (s : State) : Host.Outcome State Fault Refusal := storeC .coef1 v s

/-- RD.COEF1 (40_controller_registers.md R220, R201). -/
def execRdCoef1 (s : State) : Host.Outcome State Fault Refusal := loadC .coef1 s

/-- WR.COEF2 (40_controller_registers.md R220, R201). -/
def execWrCoef2 (v : Word) (s : State) : Host.Outcome State Fault Refusal := storeC .coef2 v s

/-- RD.COEF2 (40_controller_registers.md R220, R201). -/
def execRdCoef2 (s : State) : Host.Outcome State Fault Refusal := loadC .coef2 s

/-- WR.COEF3 (40_controller_registers.md R220, R201). -/
def execWrCoef3 (v : Word) (s : State) : Host.Outcome State Fault Refusal := storeC .coef3 v s

/-- RD.COEF3 (40_controller_registers.md R220, R201). -/
def execRdCoef3 (s : State) : Host.Outcome State Fault Refusal := loadC .coef3 s

/-- WR.COEF4 (40_controller_registers.md R220, R201). -/
def execWrCoef4 (v : Word) (s : State) : Host.Outcome State Fault Refusal := storeC .coef4 v s

/-- RD.COEF4 (40_controller_registers.md R220, R201). -/
def execRdCoef4 (s : State) : Host.Outcome State Fault Refusal := loadC .coef4 s

/-- WR.COEF5 (40_controller_registers.md R220, R201). -/
def execWrCoef5 (v : Word) (s : State) : Host.Outcome State Fault Refusal := storeC .coef5 v s

/-- RD.COEF5 (40_controller_registers.md R220, R201). -/
def execRdCoef5 (s : State) : Host.Outcome State Fault Refusal := loadC .coef5 s

/-- WR.C.HIGH (40_controller_registers.md R204). -/
def execWrCHigh (_v : Word) (s : State) : Host.Outcome State Fault Refusal := inertWrite s

/-- RD.C.HIGH (40_controller_registers.md R204). -/
def execRdCHigh (s : State) : Host.Outcome State Fault Refusal := inertRead s

/-- WR.C.UNKNOWN (40_controller_registers.md R202). -/
def execWrCUnknown (_sel : BitVec 7) (_v : Word) (s : State) : Host.Outcome State Fault Refusal := inertWrite s

/-- RD.C.UNKNOWN (40_controller_registers.md R202). -/
def execRdCUnknown (_sel : BitVec 7) (s : State) : Host.Outcome State Fault Refusal := unknownRead s

end Sys2Proof.Machine
end

