-- ==== Sys2Proof/Machine/Compositor.lean ====
section
/-! DEFINITION. The layer compositor: ranks, candidates, priority table, chroma key, cellophane, one line
(44_compositor.md). It reads the render cache and the line buffers only (R440). -/

namespace Sys2Proof.Machine

/-- The layers in their fixed hardware order (44_compositor.md R442). -/
def layers : List Layer := [.bg0, .bg1, .bg2, .bg3, .ovl, .vdcBg, .vdcSpr]

/-- index(l) (44_compositor.md R442). -/
def layerIndex : Layer → Nat
  | .bg0 => 0
  | .bg1 => 1
  | .bg2 => 2
  | .bg3 => 3
  | .ovl => 4
  | .vdcBg => 5
  | .vdcSpr => 6

/-- The layer's PMODE enable bit (40_controller_registers.md R203). -/
def enabled (p : PicRegs) : Layer → Bool
  | .vdcBg => p.pmode.getLsbD 8
  | .vdcSpr => p.pmode.getLsbD 9
  | .bg0 => p.pmode.getLsbD 10
  | .bg1 => p.pmode.getLsbD 11
  | .bg2 => p.pmode.getLsbD 12
  | .bg3 => p.pmode.getLsbD 13
  | .ovl => p.pmode.getLsbD 14

/-- p(l), the raw priority (40_controller_registers.md R214). -/
def rawPriority (p : PicRegs) : Layer → BitVec 4
  | .bg0 => p.prio0.extractLsb' 0 4
  | .bg1 => p.prio0.extractLsb' 4 4
  | .bg2 => p.prio0.extractLsb' 8 4
  | .bg3 => p.prio0.extractLsb' 12 4
  | .ovl => p.prio1.extractLsb' 0 4
  | .vdcBg => p.prio1.extractLsb' 4 4
  | .vdcSpr => p.prio1.extractLsb' 8 4

/-- (p(m), index(m)) < (p(l), index(l)) lexicographically (44_compositor.md R443). -/
def before (p : PicRegs) (m l : Layer) : Bool :=
  decide ((rawPriority p m).toNat < (rawPriority p l).toNat) ||
    (decide ((rawPriority p m).toNat = (rawPriority p l).toNat) && decide (layerIndex m < layerIndex l))

/-- RANK[l] (44_compositor.md R443). -/
def rankOf (p : PicRegs) (l : Layer) : Nat :=
  if enabled p l then 1 + layers.countP (fun m => enabled p m && before p m l) else 0

/-- RESOLVE_RANKS (44_compositor.md R443). -/
def resolveRanks (p : PicRegs) : Ranks :=
  { bg0 := rankOf p .bg0, bg1 := rankOf p .bg1, bg2 := rankOf p .bg2, bg3 := rankOf p .bg3,
    ovl := rankOf p .ovl, vdcBg := rankOf p .vdcBg, vdcSpr := rankOf p .vdcSpr }

/-- RC.RANK[l]. -/
def rank (r : Ranks) : Layer → Nat
  | .bg0 => r.bg0
  | .bg1 => r.bg1
  | .bg2 => r.bg2
  | .bg3 => r.bg3
  | .ovl => r.ovl
  | .vdcBg => r.vdcBg
  | .vdcSpr => r.vdcSpr

/-- The layer's 8-bit palette offset field (40_controller_registers.md R212). -/
def palofs (p : PicRegs) : Layer → Byte
  | .vdcBg => p.palofs0.extractLsb' 0 8
  | .vdcSpr => p.palofs0.extractLsb' 8 8
  | .bg0 => p.palofs1.extractLsb' 0 8
  | .bg1 => p.palofs1.extractLsb' 8 8
  | .bg2 => p.palofs2.extractLsb' 0 8
  | .bg3 => p.palofs2.extractLsb' 8 8
  | .ovl => p.palofs3.extractLsb' 0 8

/-- PBASE(l) = field(l) << 1 (40_controller_registers.md R212). -/
def pbase (p : PicRegs) (l : Layer) : BitVec 10 := (palofs p l).setWidth 10 <<< 1

/-- What the compositor reads of the render cache (44_compositor.md R440). -/
structure Latched where
  pic : PicRegs
  pcache : Vector Yuv24 1024
  rank : Ranks
  deriving DecidableEq, Repr

/-- PLOOK(l, v) (43_palette_yuv.md R414). -/
def plook (rc : Latched) (l : Layer) (v : Byte) : Yuv24 :=
  pcacheGet rc.pcache (pbase rc.pic l + v.setWidth 10)

/-- A candidate of a column: layer, rank, colour, and the palette bank of a tile (44_compositor.md R445 to R447). -/
structure Candidate where
  layer : Layer
  rank : Nat
  colour : Yuv24
  bank : BitVec 4
  deriving DecidableEq, Repr

/-- The colour of an opaque background or overlay entry (44_compositor.md R445, R447). -/
def entryColour (rc : Latched) (l : Layer) : PixEntry → Option Yuv24
  | .transparent => none
  | .idx v => some (plook rc l v)
  | .direct y => some y

/-- The opaque entry of background layer `l` in a column, if the layer has a rank. -/
def bgEntry (rc : Latched) (l : Layer) (e : PixEntry) : Option Candidate :=
  if rank rc.rank l = 0 then none
  else (entryColour rc l e).map fun c => { layer := l, rank := rank rc.rank l, colour := c, bank := 0 }

/-- The candidate of smaller rank. -/
def frontmost (a b : Option Candidate) : Option Candidate :=
  match a, b with
  | none, b => b
  | some a, none => some a
  | some a, some b => if b.rank < a.rank then some b else some a

/-- Entry x of a row. -/
def pixAt (row : List PixEntry) (x : Nat) : PixEntry := row.getD x .transparent

/-- B(x) (44_compositor.md R445). -/
def bgCandidate (rc : Latched) (rows : BgRows) (x : Nat) : Option Candidate :=
  frontmost
    (frontmost (bgEntry rc .bg0 (pixAt rows.bg0 x)) (bgEntry rc .bg1 (pixAt rows.bg1 x)))
    (frontmost (bgEntry rc .bg2 (pixAt rows.bg2 x)) (bgEntry rc .bg3 (pixAt rows.bg3 x)))

/-- The compositor's layer of a tile-chip output. -/
def tileLayer : TileLayer → Layer
  | .vdcBg => .vdcBg
  | .vdcSpr => .vdcSpr

/-- T(x) (44_compositor.md R446). -/
def tileCandidate (rc : Latched) (tbuf : List TileEntry) (x : Nat) : Option Candidate :=
  match tbuf.getD x .transparent with
  | .transparent => none
  | .tile k v =>
    if rank rc.rank (tileLayer k) = 0 then none
    else
      some
        { layer := tileLayer k, rank := rank rc.rank (tileLayer k), colour := plook rc (tileLayer k) v,
          bank := v.extractLsb' 4 4 }

/-- MIN <= x <= MAX of a key register (40_controller_registers.md R216). -/
def inKey (k : Word) (x : Byte) : Bool :=
  decide ((lowByte k).toNat ≤ x.toNat) && decide (x.toNat ≤ (highByte k).toNat)

/-- KEYED(C) (44_compositor.md R452). -/
def keyed (p : PicRegs) (c : Yuv24) : Bool :=
  !dotClock p.pmode && inKey p.keyy (yOf c) && inKey p.keyu (uOf c) && inKey p.keyv (vOf c)

/-- O(x) (44_compositor.md R447). -/
def ovlCandidate (rc : Latched) (obuf : List PixEntry) (x : Nat) : Option Candidate :=
  if rank rc.rank .ovl = 0 then none
  else
    match entryColour rc .ovl (pixAt obuf x) with
    | none => none
    | some c =>
      if keyed rc.pic c then none
      else some { layer := .ovl, rank := rank rc.rank .ovl, colour := c, bank := 0 }

/-- The three candidates of a column (44_compositor.md R440). -/
inductive Slot where
  | t
  | b
  | o
  deriving DecidableEq, Repr

/-- The roles the priority table gives (44_compositor.md R448). -/
structure Roles where
  fore : Slot
  mid : Option Slot
  hind : Option Slot
  deriving DecidableEq, Repr

/-- key(r): a disabled slot sorts last (44_compositor.md R448). -/
def sortKey (r : Nat) : Nat := if r = 0 then 9 else r

/-- Insert before the first slot that does not sort before it: the step of a stable sort. -/
def insertSlot (rk : Slot → Nat) (x : Slot) : List Slot → List Slot
  | [] => [x]
  | y :: ys => if sortKey (rk x) ≤ sortKey (rk y) then x :: y :: ys else y :: insertSlot rk x ys

/-- [T, B, O] stably sorted by key (44_compositor.md R448). -/
def sortedSlots (rk : Slot → Nat) : List Slot :=
  insertSlot rk .t (insertSlot rk .b (insertSlot rk .o []))

/-- The rank of a slot, from the three inputs of the table. -/
def slotRank (rT rB rO : Nat) : Slot → Nat
  | .t => rT
  | .b => rB
  | .o => rO

/-- PT, the priority table (44_compositor.md R448). -/
def priorityTable (rT rB rO : Nat) : Roles :=
  let rk := slotRank rT rB rO
  let ss := sortedSlots rk
  let es := ss.filter fun x => rk x != 0
  { fore := ss.headD .t
    mid := if es.length = 3 then es[1]? else none
    hind := es.getLast? }

/-- The slots in drawing order: HIND, MID, FORE, none twice (44_compositor.md R460). -/
def drawOrder (r : Roles) : List Slot :=
  let hm := r.hind.toList ++ (r.mid.toList.filter fun x => !(r.hind.toList.contains x))
  hm ++ (if hm.contains r.fore then [] else [r.fore])

/-- MULY(c, x) (44_compositor.md R458). -/
def mulY (c : BitVec 4) (x : Byte) : Int := (x.toNat * c.toNat / 8 : Nat)

/-- MULUV(c, x), truncated toward zero (44_compositor.md R458). -/
def mulUV (c : BitVec 4) (x : Byte) : Int := (((x.toNat : Int) - 128) * c.toNat).tdiv 8

/-- CY of a coefficient register (40_controller_registers.md R220). -/
def coefY (k : BitVec 12) : BitVec 4 := k.extractLsb' 8 4

/-- CU of a coefficient register. -/
def coefU (k : BitVec 12) : BitVec 4 := k.extractLsb' 4 4

/-- CV of a coefficient register. -/
def coefV (k : BitVec 12) : BitVec 4 := k.extractLsb' 0 4

/-- BLEND with the coefficient pair (a, b): the candidate colour over the base colour (44_compositor.md R456). -/
def blend (a b : BitVec 12) (p q : Yuv24) : Yuv24 :=
  clampByte (mulY (coefY a) (yOf p) + mulY (coefY b) (yOf q)) ++
    clampByte (128 + mulUV (coefU a) (uOf p) + mulUV (coefU b) (uOf q)) ++
    clampByte (128 + mulUV (coefV a) (vOf p) + mulUV (coefV b) (vOf q))

/-- m(l), the layer's cellophane mode (40_controller_registers.md R218). -/
def celMode (p : PicRegs) : Layer → BitVec 2
  | .vdcBg => p.celctl.extractLsb' 0 2
  | .vdcSpr => p.celctl.extractLsb' 2 2
  | .ovl => p.celctl.extractLsb' 4 2
  | .bg0 => p.celctl.extractLsb' 6 2
  | .bg1 => p.celctl.extractLsb' 8 2
  | .bg2 => p.celctl.extractLsb' 10 2
  | .bg3 => p.celctl.extractLsb' 12 2

/-- (COEF[2(m-1)], COEF[2(m-1)+1]); mode 0 blends nothing and has no pair (44_compositor.md R456). -/
def coefPair (p : PicRegs) (m : BitVec 2) : Option (BitVec 12 × BitVec 12) :=
  match m.toNat with
  | 1 => some (p.coef0, p.coef1)
  | 2 => some (p.coef2, p.coef3)
  | 3 => some (p.coef4, p.coef5)
  | _ => none

/-- The coefficient pair when cellophane applies to a drawn candidate (44_compositor.md R455). -/
def cellophane (p : PicRegs) (c : Candidate) : Option (BitVec 12 × BitVec 12) :=
  if p.celctl.getLsbD 15 = true ∧ ¬(c.layer = .vdcSpr ∧ p.sprmask.getLsbD c.bank.toNat = true) then
    coefPair p (celMode p c.layer)
  else none

/-- Q, the base colour under a blended candidate (44_compositor.md R457). -/
def baseColour (p : PicRegs) (acc : Yuv24) : Yuv24 :=
  if p.celctl.getLsbD 14 then expand p.fixcol else acc

/-- Draw one candidate over what is behind it (44_compositor.md R460). -/
def drawOne (p : PicRegs) (acc : Yuv24) : Option Candidate → Yuv24
  | none => acc
  | some c =>
    match cellophane p c with
    | some (a, b) => blend a b c.colour (baseColour p acc)
    | none => c.colour

/-- FB, the colour behind everything (44_compositor.md R453). -/
def fallback (cfg : Params) (rc : Latched) : Yuv24 :=
  if layers.any fun l => rank rc.rank l != 0 then pcacheGet rc.pcache (pbase rc.pic .bg0) else cfg.neutral

/-- The candidate of a slot in a column. -/
def candidateOf (rc : Latched) (ln : LineBufs) (x : Nat) : Slot → Option Candidate
  | .t => tileCandidate rc ln.tbuf x
  | .b => bgCandidate rc ln.bgrows x
  | .o => ovlCandidate rc ln.obuf x

/-- The rank of a candidate, 0 for NONE (44_compositor.md R450). -/
def candidateRank : Option Candidate → Nat
  | none => 0
  | some c => c.rank

/-- The composed YUV24 value of column x (44_compositor.md R460). -/
def composeColumn (cfg : Params) (rc : Latched) (ln : LineBufs) (x : Nat) : Yuv24 :=
  let cand := candidateOf rc ln x
  let roles :=
    priorityTable (candidateRank (cand .t)) (candidateRank (cand .b)) (candidateRank (cand .o))
  (drawOrder roles).foldl (fun acc sl => drawOne rc.pic acc (cand sl)) (fallback cfg rc)

/-- COMPOSE_LINE (44_compositor.md R460). -/
def composeLine (cfg : Params) (rc : Latched) (ln : LineBufs) : List Rgb24 :=
  (List.range (cfg.widthOf (dotClock rc.pic.pmode))).map fun x =>
    yuv2rgb cfg.yuv2rgb (composeColumn cfg rc ln x)

/-- The render cache of a state, as the compositor reads it. -/
def latched (s : State) : Latched := { pic := s.rc.pic, pcache := s.rcd.pcache, rank := s.rcd.rank }

end Sys2Proof.Machine
end

