-- ==== Sys2Proof/Machine/Handshake.lean ====
section
/-! DEFINITION. The DMA/SCSI handshake sequencer (45_dma_scsi_handshake.md). -/

namespace Sys2Proof.Machine

/-- Stop a transfer: no direction active, no request to the host, no held byte
(45_dma_scsi_handshake.md R492; 41_memory_dma_registers.md R272). -/
def stopTransfer (s : State) : State :=
  (s.setScsi { s.scsi with recvAct := false, sendAct := false, drq := false }).setDma { s.dma with ff := false }

/-- PHASE_CHECK (45_dma_scsi_handshake.md R492); the phase lines are read only when a transfer is active and REQ is
asserted (DEDUCED, safe; log 9). -/
def phaseCheck (req : Bool) (s : State) : State :=
  if (s.scsi.recvAct || s.scsi.sendAct) && req then
    let m := busGet .msg s
    let c := busGet .cd m.2
    let i := busGet .io c.2
    if phaseMatches i.2.scsi.sphase m.1 c.1 i.1 then i.2
    else stopTransfer (i.2.setPend { i.2.pend with phase := true })
  else s

/-- The second byte of a pair: one KRAM word, the first byte its low byte (45_dma_scsi_handshake.md R497). -/
def dmaWord (b : Byte) (s : State) : State :=
  (s.setKram (memWrite s.kram (bankDma s.kctl) s.dma.addr (b ++ s.dma.lo))).setDma
    { s.dma with addr := s.dma.addr + 1, ff := false }

/-- Pack one byte (45_dma_scsi_handshake.md R497). -/
def dmaPack (b : Byte) (s : State) : State :=
  if s.dma.ff then dmaWord b s else s.setDma { s.dma with lo := b, ff := true }

/-- The last counted byte: the transfer stops, a held byte is dropped, DMA_PEND is set
(45_dma_scsi_handshake.md R497, R499). -/
def dmaFinish (s : State) : State :=
  ((s.setDma { s.dma with size := 0, ff := false }).setScsi { s.scsi with recvAct := false }).setPend
    { s.pend with dma := true }

/-- Count one byte (45_dma_scsi_handshake.md R497). -/
def dmaCount (s : State) : State :=
  if s.dma.size = 0 then s
  else if s.dma.size = 1 then dmaFinish s
  else s.setDma { s.dma with size := s.dma.size - 1 }

/-- RECEIVE_BYTE (45_dma_scsi_handshake.md R493, R494). -/
def receiveByte (s : State) : State :=
  let g := busGetData s
  if realDma g.2.dma then setHsAck true (dmaCount (dmaPack g.1 g.2))
  else if g.2.scsi.drq then g.2
  else g.2.setScsi { g.2.scsi with scache := g.1, drq := true }

/-- SEND_BYTE (45_dma_scsi_handshake.md R496). -/
def sendByte (s : State) : State :=
  let s := setHsAck true (call s (.busSetData s.scsi.sout))
  s.setScsi { s.scsi with drq := true }

/-- HANDSHAKE_TICK (45_dma_scsi_handshake.md R490, R495): REQ and ACK are read once, at the start (log 9). -/
def handshakeTick (s : State) : State :=
  let r := busGet .req s
  let a := busGet .ack r.2
  let s := phaseCheck r.1 a.2
  if s.scsi.hsAck && a.1 && !r.1 then setHsAck false s
  else if s.scsi.recvAct && r.1 && !a.1 then receiveByte s
  else if s.scsi.sendAct && r.1 && !a.1 && !s.scsi.drq then sendByte s
  else s

end Sys2Proof.Machine
end

