-- ==== Sys2Proof/Machine/Scheduler.lean ====
section
/-! DEFINITION. The timing scheduler and the horizontal state machine (42_timing_scheduler.md). -/

namespace Sys2Proof.Machine

/-- VISIBLE(L) for a 9-bit line (42_timing_scheduler.md R373). -/
def visible (c : Params) (l : BitVec 9) : Bool := c.visible l.toNat

/-- TBUF with `px` stored from TPOS on, what falls beyond W_MAX dropped (42_timing_scheduler.md R374). -/
def tilesPut (c : Params) (tbuf : List TileEntry) (tpos : Nat) (px : List TileEntry) : List TileEntry :=
  if tpos < c.wMax then fitTiles c (tbuf.take tpos ++ px ++ tbuf.drop (tpos + px.length)) else tbuf

/-- TILE_ADVANCE(c) (42_timing_scheduler.md R374). -/
def tileAdvance (c : Nat) (s : State) : State :=
  let div := s.cfg.divOf (dotClock s.pic.pmode)
  let t := s.timing.divrem + c
  let emit := (s.timing.hphase == .active) && visible s.cfg s.timing.raster
  let px := tileRun (t / div) emit (s.setTiming { s.timing with divrem := t % div })
  let ln := px.2.line
  if emit then
    px.2.setLine { ln with tbuf := tilesPut px.2.cfg ln.tbuf ln.tpos px.1, tpos := ln.tpos + px.1.length }
  else px.2

/-- Set HCNT for the phase just entered (42_timing_scheduler.md R362). -/
def setPhaseCount (s : State) : State :=
  s.setTiming
    { s.timing with
      hcnt := s.cfg.duration s.timing.hphase (dotClock s.pic.pmode) (line263 s.pic.pmode) }

/-- HPHASE <- ph. -/
def setPhase (ph : Phase) (s : State) : State := s.setTiming { s.timing with hphase := ph }

/-- OUT[n] <- row, lines kept in rising order (10_state.md R74). -/
def rowsPut (n : Nat) (row : List Rgb24) : List OutRow → List OutRow
  | [] => [(n, row)]
  | r :: rest =>
    if n < r.1 then (n, row) :: r :: rest
    else if r.1 = n then (n, row) :: rest
    else r :: rowsPut n row rest

/-- ENTER_P1 (42_timing_scheduler.md R368). -/
def enterP1 (s : State) : State :=
  let s1 :=
    if visible s.cfg s.rc.line then
      s.setOut
        { s.out with
          rows := rowsPut (s.rc.line.toNat - s.cfg.firstVisible) (composeLine s.cfg (latched s) s.line) s.out.rows
          width := s.cfg.widthOf (dotClock s.rc.pic.pmode) }
    else s
  call (call s1 (.tileHsync .tile0)) (.tileHsync .tile1)

/-- The raster interrupt (42_timing_scheduler.md R365). -/
def rasterInterrupt (s : State) : State :=
  if s.timing.raster = s.ovl.rirqLine ∧ rasterIrqEnabled s.ovl = true then
    s.setPend { s.pend with raster := true }
  else s

/-- The frame boundary, when the line step has reached line 0 (42_timing_scheduler.md R366). -/
def frameBoundary (s : State) : State :=
  if s.timing.raster = 0 then
    let s1 := s.setTiming { s.timing with odd := interlaced s.pic.pmode && !s.timing.odd }
    let s2 :=
      s1.setOut
        { s1.out with
          frames := s1.out.frames + 1
          interlace := interlaced s1.pic.pmode
          height := s1.cfg.visibleLines }
    call (call s2 (.tileVsync .tile0)) (.tileVsync .tile1)
  else s

/-- The raster value after a line step (42_timing_scheduler.md R364). -/
def nextRaster (pmode : Word) (raster : BitVec 9) : BitVec 9 :=
  if lineCount pmode ≤ raster.toNat + 1 then 0 else raster + 1

/-- LINE_STEP (42_timing_scheduler.md R364). -/
def lineStep (s : State) : State :=
  frameBoundary
    (rasterInterrupt (s.setTiming { s.timing with raster := nextRaster s.pic.pmode s.timing.raster }))

/-- LATCH (42_timing_scheduler.md R370). -/
def latch (s : State) : State :=
  (s.setRc { pic := s.pic, line := s.timing.raster }).setRcd
    { pcache := s.pcache, rank := resolveRanks s.pic }

/-- BG_RENDER (42_timing_scheduler.md R371). -/
def bgStep (s : State) : State :=
  if visible s.cfg s.rc.line then
    let r := bgRender s.rc.line s
    r.2.setLine { r.2.line with bgrows := r.1 }
  else s.setLine { s.line with bgrows := clearRows s.cfg }

/-- One overlay block (42_timing_scheduler.md R372): the address moves by the words consumed, the count drops, the
transfer stops at 0. -/
def overlayBlock (s : State) : State :=
  let d := ovlDecodeBlock (bankOvl s.kctl) s.ovl.addr s
  let o := d.2.ovl
  d.2.setOvl
    { o with
      addr := o.addr + BitVec.ofNat 18 d.1
      blocks := o.blocks - 1
      ctl := if o.blocks - 1 = 0 then o.ctl &&& 0xFFFE#16 else o.ctl }

/-- OVERLAY_LINE (42_timing_scheduler.md R372): EN is sampled before the block is decoded. -/
def overlayLine (s : State) : State :=
  if ovlEnabled s.ovl && visible s.cfg s.rc.line then
    let s1 := if s.ovl.blocks = 0 then s else overlayBlock s
    let f := ovlFetchRaster s1.rc.line (pbase s1.pic .ovl) s1
    f.2.setLine { f.2.line with obuf := f.1 }
  else s.setLine { s.line with obuf := clearRow s.cfg }

/-- Clear the tile buffer for a new line (42_timing_scheduler.md R369). -/
def clearTileBuffer (s : State) : State :=
  s.setLine { s.line with tbuf := clearTiles s.cfg, tpos := 0 }

/-- ENTER_ACTIVE (42_timing_scheduler.md R369). -/
def enterActive (s : State) : State := clearTileBuffer (overlayLine (bgStep (latch s)))

/-- PHASE_STEP (42_timing_scheduler.md R363, R367). -/
def phaseStep (s : State) : State :=
  match s.timing.hphase with
  | .active => setPhaseCount (enterP1 (setPhase .part1 s))
  | .part1 => setPhaseCount (setPhase .part3 s)
  | .part3 => setPhaseCount (setPhase .part4 (if s.cfg.rasterIncAt = .exitP3 then lineStep s else s))
  | .part4 =>
    setPhaseCount
      (enterActive (setPhase .active (if s.cfg.rasterIncAt = .entryActive then lineStep s else s)))

/-- The sub-channel condition (60_exceptions.md R556). -/
def subchannel (ev : Bool) (s : State) : State :=
  if ev then s.setPend { s.pend with subch := true } else s

/-- EXT_SERVICE (42_timing_scheduler.md R377). -/
def extService (s : State) : State :=
  let a := busService s
  subchannel a.1.subchannel (a.2.setExtcnt (atLeastOne a.1.next))

/-- Step (a) of SERVICE (42_timing_scheduler.md R361), IRQ re-evaluated after it (60_exceptions.md R551). -/
def servicePhase (s : State) : State := if s.timing.hcnt = 0 then reevalIrq (phaseStep s) else s

/-- Step (b) of SERVICE: the tick, then HSCNT reloaded. -/
def serviceHandshake (s : State) : State :=
  if s.timing.hscnt = 0 then
    let t := handshakeTick s
    reevalIrq (t.setTiming { t.timing with hscnt := t.cfg.hsEvery })
  else s

/-- Step (c) of SERVICE. -/
def serviceExternal (s : State) : State := if s.extcnt = some 0 then reevalIrq (extService s) else s

/-- SERVICE (42_timing_scheduler.md R361). -/
def service (s : State) : State := serviceExternal (serviceHandshake (servicePhase s))

/-- min(HCNT, HSCNT, EXTCNT, left), never below 1 (42_timing_scheduler.md R360; the counters are at least 1 between
chunks, so the bound binds in no reachable state: DEDUCED, safe; log 8). -/
def chunk (s : State) (left : Nat) : Nat :=
  let c := min (min s.timing.hcnt s.timing.hscnt) left
  max 1 (match s.extcnt with | some e => min c e | none => c)

/-- The counters after `c` clocks (42_timing_scheduler.md R360). -/
def countDown (c : Nat) (s : State) : State :=
  (s.setTiming
    { s.timing with
      hcnt := s.timing.hcnt - c
      hscnt := s.timing.hscnt - c
      now := s.timing.now + c }).setExtcnt (s.extcnt.map (· - c))

/-- One chunk: the tile chips, the counters, the services (42_timing_scheduler.md R360, R375). -/
def runChunk (c : Nat) (s : State) : State := service (countDown c (tileAdvance c s))

/-- The chunk loop over a budget; every chunk takes at least one clock, so `fuel` = the budget suffices. -/
def runLoop : Nat → Nat → State → State
  | 0, _, s => s
  | fuel + 1, left, s =>
    if left = 0 then s
    else runLoop fuel (left - chunk s left) (runChunk (chunk s left) s)

/-- RUN(n) (42_timing_scheduler.md R360). -/
def runClocks (n : Nat) (s : State) : State := runLoop n n s

end Sys2Proof.Machine
end

