-- ==== Sys2Proof/Machine/HostRequests.lean ====
section
/-! DEFINITION. The meanings of the unknown and no-space rows and of the host requests
(41_memory_dma_registers.md R263; 20_memory.md R104; 46_host_operations.md; 70_reset_and_hazards.md R590). -/

namespace Sys2Proof.Machine

/-- WR.K.UNKNOWN (41_memory_dma_registers.md R263). -/
def execWrKUnknown (_high : Bool) (_sel : BitVec 7) (_v : Word) (s : State) : Host.Outcome State Fault Refusal := inertWrite s

/-- RD.K.UNKNOWN (41_memory_dma_registers.md R263). -/
def execRdKUnknown (_high : Bool) (_sel : BitVec 7) (s : State) : Host.Outcome State Fault Refusal := unknownRead s

/-- WR.NOSPACE (20_memory.md R104). -/
def execWrNospace (_space : BitVec 3) (_v : Word) (s : State) : Host.Outcome State Fault Refusal := inertWrite s

/-- RD.NOSPACE (20_memory.md R104). -/
def execRdNospace (_space : BitVec 3) (s : State) : Host.Outcome State Fault Refusal := unknownRead s

/-- RUN (42_timing_scheduler.md R360; 46_host_operations.md R532). -/
def execRun (n : Nat) (s : State) : Host.Outcome State Fault Refusal := complete (runClocks n s)

/-- RESET(t) before it completes: one draw of `bus.next_event()`, every field of 70_reset_and_hazards.md R590, the
calls it makes; KRAM and the model's own fields stay (log 23). -/
def doReset (t : Nat) (s : State) : State :=
  let e := busNextEvent s
  (((((e.2.setSnapshot (Snapshot.cleared s.cfg s.kram t)).setPcache pcacheZero).setRcd
    { pcache := pcacheZero, rank := Ranks.zero }).setExtcnt e.1).setLastIrq false).setCalls
    (resetCalls ++ e.2.calls)

/-- RESET (70_reset_and_hazards.md R590; 46_host_operations.md R538). -/
def execReset (t : Nat) (s : State) : Host.Outcome State Fault Refusal := complete (doReset t s)

/-- SAVE (46_host_operations.md R533, R538). -/
def execSave (s : State) : Host.Outcome State Fault Refusal := .next (reevalIrq (s.setReply (.snapshot s.toSnapshot)))

/-- Latched registers within their writable masks (46_host_operations.md R533). -/
def maskPic (p : PicRegs) : PicRegs :=
  { p with
    pmode := p.pmode &&& cMask .pmode
    palofs3 := p.palofs3 &&& cMask .palofs3
    prio1 := p.prio1 &&& cMask .prio1 }

/-- A line number within the frame (46_host_operations.md R534). -/
def clampLine (pmode : Word) (l : BitVec 9) : BitVec 9 := BitVec.ofNat 9 (min l.toNat (lineCount pmode - 1))

/-- clamp(x, lo, hi) (00_scope.md R15). -/
def clampNat (x lo hi : Nat) : Nat := min (max x lo) hi

/-- The counters within their ranges, PMODE already restored (46_host_operations.md R534). After a PMODE write a
reachable state may hold HCNT, RASTER, RC.LINE or DIVREM beyond the new mode's range; a round trip then clamps them, as
R534 says, although R535 speaks of any point between requests (DESIGN CHOICE, unsafe; log 25). -/
def clampTiming (c : Params) (pmode : Word) (t : Timing) : Timing :=
  { t with
    raster := clampLine pmode t.raster
    hcnt := clampNat t.hcnt 1 (c.duration t.hphase (dotClock pmode) (line263 pmode))
    hscnt := clampNat t.hscnt 1 c.hsEvery
    divrem := t.divrem % c.divOf (dotClock pmode) }

/-- SCSI latches within their writable masks (10_state.md R51; 41_memory_dma_registers.md section 1). -/
def maskScsi (b : Scsi) : Scsi :=
  { b with scmd := b.scmd &&& 0x9F#8, smode := b.smode &&& 0x02#8, sphase := b.sphase &&& 0x07#8 }

/-- The line buffers at their fixed lengths (10_state.md R73; 46_host_operations.md R534; log 12). -/
def fitLine (c : Params) (l : LineBufs) : LineBufs :=
  { tbuf := fitTiles c l.tbuf
    tpos := min l.tpos c.wMax
    bgrows := fitRows c l.bgrows
    obuf := fitRow c l.obuf }

/-- The output rows as a map from the lines 0..VIS_COUNT-1 (10_state.md R74; log 12). -/
def canonicalRows (c : Params) : List OutRow → List OutRow
  | [] => []
  | r :: rest =>
    if r.1 < c.visibleLines then rowsPut r.1 r.2 (canonicalRows c rest) else canonicalRows c rest

/-- A snapshot as RESTORE writes it: each field within its width and mask, the counters clamped
(46_host_operations.md R533, R534; log 12). -/
def sanitize (c : Params) (x : Snapshot) : Snapshot :=
  { x with
    pic := maskPic x.pic
    timing := clampTiming c (maskPic x.pic).pmode x.timing
    rc := { pic := maskPic x.rc.pic, line := clampLine (maskPic x.pic).pmode x.rc.line }
    scsi := maskScsi x.scsi
    dma := { x.dma with ctl := x.dma.ctl &&& 0x0001#16 }
    play := { x.play with ctl := x.play.ctl &&& 0x003F#16 }
    ovl := { x.ovl with ctl := x.ovl.ctl &&& 0x0003#16 }
    mp := { x.mp with ctl := x.mp.ctl &&& 0x0001#16 }
    kctl := { x.kctl with page := x.kctl.page &&& 0x01010011#32 }
    kram := x.kram.canonical
    line := fitLine c x.line
    out := { x.out with rows := canonicalRows c x.out.rows } }

/-- RESTORE(x) before it completes: the stored fields, the derived fields from them, EXTCNT drawn anew, the changed bus
outputs forwarded (46_host_operations.md R533; 10_state.md R76, log 11), the draw's call before the forwarding calls
(DESIGN CHOICE, safe; log 26). -/
def doRestore (x : Snapshot) (s : State) : State :=
  let y := sanitize s.cfg x
  let cache := pcacheOf y.palette.pal
  let s1 :=
    ((s.setSnapshot y).setPcache cache).setRcd { pcache := cache, rank := resolveRanks y.rc.pic }
  let e := busNextEvent s1
  forwardOutputs s.scsi y.scsi (e.2.setExtcnt e.1)

/-- RESTORE (46_host_operations.md R533, R534). -/
def execRestore (x : Snapshot) (s : State) : Host.Outcome State Fault Refusal := complete (doRestore x s)

/-- AD_CTL's RUN bit of a channel (41_memory_dma_registers.md R330). -/
def playRunning (p : Playback) : Channel → Bool
  | .ch0 => p.ctl.getLsbD 4
  | .ch1 => p.ctl.getLsbD 5

/-- PLAY[c]. -/
def playAddr (p : Playback) : Channel → KAddr
  | .ch0 => p.play0
  | .ch1 => p.play1

/-- Take a sample address: END and INTER reached set AD_FLAGS[2c] and AD_FLAGS[2c+1], PLAY[c] advances
(46_host_operations.md R541). -/
def playAdvance (p : Playback) (c : Channel) : Playback :=
  match c with
  | .ch0 =>
    { p with
      flags := p.flags ||| (if p.play0 = p.end0 then 1#4 else 0#4) ||| (if p.play0 = p.inter0 then 2#4 else 0#4)
      play0 := p.play0 + 1 }
  | .ch1 =>
    { p with
      flags := p.flags ||| (if p.play1 = p.end1 then 4#4 else 0#4) ||| (if p.play1 = p.inter1 then 8#4 else 0#4)
      play1 := p.play1 + 1 }

/-- PLAYFETCH (46_host_operations.md R541). -/
def execPlayfetch (c : Channel) (s : State) : Host.Outcome State Fault Refusal := 
  if playRunning s.play c then
    answer (memRead s.kram (bankPlay s.kctl) (playAddr s.play c)) (s.setPlay (playAdvance s.play c))
  else answer 0 s

end Sys2Proof.Machine
end

