-- ==== Sys2Proof/Machine/KramRegs.lean ====
section
/-! DEFINITION. The meanings of the DMA, KRAM cursor and page rows (41_memory_dma_registers.md R280 to R300). -/

namespace Sys2Proof.Machine

/-- WR.DMAADDR.LO (41_memory_dma_registers.md R280, R260). -/
def execWrDmaaddrLo (v : Word) (s : State) : Host.Outcome State Fault Refusal := storeLo .dmaaddr v s

/-- RD.DMAADDR.LO (41_memory_dma_registers.md R280, R260). -/
def execRdDmaaddrLo (s : State) : Host.Outcome State Fault Refusal := loadLo .dmaaddr s

/-- WR.DMAADDR.HI (41_memory_dma_registers.md R280, R260). -/
def execWrDmaaddrHi (v : Word) (s : State) : Host.Outcome State Fault Refusal := storeHi .dmaaddr v s

/-- RD.DMAADDR.HI (41_memory_dma_registers.md R280, R260). -/
def execRdDmaaddrHi (s : State) : Host.Outcome State Fault Refusal := loadHi .dmaaddr s

/-- WR.DMASIZE.LO (41_memory_dma_registers.md R281, R260). -/
def execWrDmasizeLo (v : Word) (s : State) : Host.Outcome State Fault Refusal := storeLo .dmasize v s

/-- RD.DMASIZE.LO (41_memory_dma_registers.md R281, R260). -/
def execRdDmasizeLo (s : State) : Host.Outcome State Fault Refusal := loadLo .dmasize s

/-- WR.DMASIZE.HI (41_memory_dma_registers.md R281, R260). -/
def execWrDmasizeHi (v : Word) (s : State) : Host.Outcome State Fault Refusal := storeHi .dmasize v s

/-- RD.DMASIZE.HI (41_memory_dma_registers.md R281, R260). -/
def execRdDmasizeHi (s : State) : Host.Outcome State Fault Refusal := loadHi .dmasize s

/-- WR.DMACTL.LO (41_memory_dma_registers.md R282, R260). -/
def execWrDmactlLo (v : Word) (s : State) : Host.Outcome State Fault Refusal := storeLo .dmactl v s

/-- RD.DMACTL.LO (41_memory_dma_registers.md R282, R260). -/
def execRdDmactlLo (s : State) : Host.Outcome State Fault Refusal := loadLo .dmactl s

/-- WR.DMACTL.HI (41_memory_dma_registers.md R282, R260). -/
def execWrDmactlHi (v : Word) (s : State) : Host.Outcome State Fault Refusal := storeHi .dmactl v s

/-- RD.DMACTL.HI (41_memory_dma_registers.md R282, R260). -/
def execRdDmactlHi (s : State) : Host.Outcome State Fault Refusal := loadHi .dmactl s

/-- WR.KRAMRA.LO (41_memory_dma_registers.md R294, R260). -/
def execWrKramraLo (v : Word) (s : State) : Host.Outcome State Fault Refusal := storeLo .kramra v s

/-- RD.KRAMRA.LO (41_memory_dma_registers.md R294, R260). -/
def execRdKramraLo (s : State) : Host.Outcome State Fault Refusal := loadLo .kramra s

/-- WR.KRAMRA.HI (41_memory_dma_registers.md R294, R260). -/
def execWrKramraHi (v : Word) (s : State) : Host.Outcome State Fault Refusal := storeHi .kramra v s

/-- RD.KRAMRA.HI (41_memory_dma_registers.md R294, R260). -/
def execRdKramraHi (s : State) : Host.Outcome State Fault Refusal := loadHi .kramra s

/-- WR.KRAMWA.LO (41_memory_dma_registers.md R295, R260). -/
def execWrKramwaLo (v : Word) (s : State) : Host.Outcome State Fault Refusal := storeLo .kramwa v s

/-- RD.KRAMWA.LO (41_memory_dma_registers.md R295, R260). -/
def execRdKramwaLo (s : State) : Host.Outcome State Fault Refusal := loadLo .kramwa s

/-- WR.KRAMWA.HI (41_memory_dma_registers.md R295, R260). -/
def execWrKramwaHi (v : Word) (s : State) : Host.Outcome State Fault Refusal := storeHi .kramwa v s

/-- RD.KRAMWA.HI (41_memory_dma_registers.md R295, R260). -/
def execRdKramwaHi (s : State) : Host.Outcome State Fault Refusal := loadHi .kramwa s

/-- WR.KRAMDATA.LO (41_memory_dma_registers.md R296). -/
def execWrKramdataLo (v : Word) (s : State) : Host.Outcome State Fault Refusal := complete (cursorWrite v s)

/-- RD.KRAMDATA.LO (41_memory_dma_registers.md R297). -/
def execRdKramdataLo (s : State) : Host.Outcome State Fault Refusal := answer (cursorPeek s) (cursorAdvance s)

/-- WR.KRAMDATA.HI (41_memory_dma_registers.md R298). -/
def execWrKramdataHi (_v : Word) (s : State) : Host.Outcome State Fault Refusal := inertWrite s

/-- RD.KRAMDATA.HI (41_memory_dma_registers.md R298). -/
def execRdKramdataHi (s : State) : Host.Outcome State Fault Refusal := inertRead s

/-- WR.PAGE.LO (41_memory_dma_registers.md R300, R260). -/
def execWrPageLo (v : Word) (s : State) : Host.Outcome State Fault Refusal := storeLo .page v s

/-- RD.PAGE.LO (41_memory_dma_registers.md R300, R260). -/
def execRdPageLo (s : State) : Host.Outcome State Fault Refusal := loadLo .page s

/-- WR.PAGE.HI (41_memory_dma_registers.md R300, R260). -/
def execWrPageHi (v : Word) (s : State) : Host.Outcome State Fault Refusal := storeHi .page v s

/-- RD.PAGE.HI (41_memory_dma_registers.md R300, R260). -/
def execRdPageHi (s : State) : Host.Outcome State Fault Refusal := loadHi .page s

end Sys2Proof.Machine
end

