-- ==== Sys2Proof/Machine/OverlayPlayRegs.lean ====
section
/-! DEFINITION. The meanings of the overlay, raster interrupt and playback rows
(41_memory_dma_registers.md R325 to R338). -/

namespace Sys2Proof.Machine

/-- WR.OVLCTL.LO (41_memory_dma_registers.md R325, R260). -/
def execWrOvlctlLo (v : Word) (s : State) : Host.Outcome State Fault Refusal := storeLo .ovlctl v s

/-- RD.OVLCTL.LO (41_memory_dma_registers.md R325, R260). -/
def execRdOvlctlLo (s : State) : Host.Outcome State Fault Refusal := loadLo .ovlctl s

/-- WR.OVLCTL.HI (41_memory_dma_registers.md R325, R260). -/
def execWrOvlctlHi (v : Word) (s : State) : Host.Outcome State Fault Refusal := storeHi .ovlctl v s

/-- RD.OVLCTL.HI (41_memory_dma_registers.md R325, R260). -/
def execRdOvlctlHi (s : State) : Host.Outcome State Fault Refusal := loadHi .ovlctl s

/-- WR.OVLADDR.LO (41_memory_dma_registers.md R326, R260). -/
def execWrOvladdrLo (v : Word) (s : State) : Host.Outcome State Fault Refusal := storeLo .ovladdr v s

/-- RD.OVLADDR.LO (41_memory_dma_registers.md R326, R260). -/
def execRdOvladdrLo (s : State) : Host.Outcome State Fault Refusal := loadLo .ovladdr s

/-- WR.OVLADDR.HI (41_memory_dma_registers.md R326, R260). -/
def execWrOvladdrHi (v : Word) (s : State) : Host.Outcome State Fault Refusal := storeHi .ovladdr v s

/-- RD.OVLADDR.HI (41_memory_dma_registers.md R326, R260). -/
def execRdOvladdrHi (s : State) : Host.Outcome State Fault Refusal := loadHi .ovladdr s

/-- WR.OVLBLOCKS.LO (41_memory_dma_registers.md R327, R260). -/
def execWrOvlblocksLo (v : Word) (s : State) : Host.Outcome State Fault Refusal := storeLo .ovlblocks v s

/-- RD.OVLBLOCKS.LO (41_memory_dma_registers.md R327, R260). -/
def execRdOvlblocksLo (s : State) : Host.Outcome State Fault Refusal := loadLo .ovlblocks s

/-- WR.OVLBLOCKS.HI (41_memory_dma_registers.md R327, R260). -/
def execWrOvlblocksHi (v : Word) (s : State) : Host.Outcome State Fault Refusal := storeHi .ovlblocks v s

/-- RD.OVLBLOCKS.HI (41_memory_dma_registers.md R327, R260). -/
def execRdOvlblocksHi (s : State) : Host.Outcome State Fault Refusal := loadHi .ovlblocks s

/-- WR.RIRQLINE.LO (41_memory_dma_registers.md R328, R260). -/
def execWrRirqlineLo (v : Word) (s : State) : Host.Outcome State Fault Refusal := storeLo .rirqline v s

/-- RD.RIRQLINE.LO (41_memory_dma_registers.md R328, R260). -/
def execRdRirqlineLo (s : State) : Host.Outcome State Fault Refusal := loadLo .rirqline s

/-- WR.RIRQLINE.HI (41_memory_dma_registers.md R328, R260). -/
def execWrRirqlineHi (v : Word) (s : State) : Host.Outcome State Fault Refusal := storeHi .rirqline v s

/-- RD.RIRQLINE.HI (41_memory_dma_registers.md R328, R260). -/
def execRdRirqlineHi (s : State) : Host.Outcome State Fault Refusal := loadHi .rirqline s

/-- WR.ADCTL.LO (41_memory_dma_registers.md R330, R260). -/
def execWrAdctlLo (v : Word) (s : State) : Host.Outcome State Fault Refusal := storeLo .adctl v s

/-- RD.ADCTL.LO (41_memory_dma_registers.md R330, R260). -/
def execRdAdctlLo (s : State) : Host.Outcome State Fault Refusal := loadLo .adctl s

/-- WR.ADCTL.HI (41_memory_dma_registers.md R330, R260). -/
def execWrAdctlHi (v : Word) (s : State) : Host.Outcome State Fault Refusal := storeHi .adctl v s

/-- RD.ADCTL.HI (41_memory_dma_registers.md R330, R260). -/
def execRdAdctlHi (s : State) : Host.Outcome State Fault Refusal := loadHi .adctl s

/-- WR.PLAY0.LO (41_memory_dma_registers.md R332, R260). -/
def execWrPlay0Lo (v : Word) (s : State) : Host.Outcome State Fault Refusal := storeLo .play0 v s

/-- RD.PLAY0.LO (41_memory_dma_registers.md R332, R260). -/
def execRdPlay0Lo (s : State) : Host.Outcome State Fault Refusal := loadLo .play0 s

/-- WR.PLAY0.HI (41_memory_dma_registers.md R332, R260). -/
def execWrPlay0Hi (v : Word) (s : State) : Host.Outcome State Fault Refusal := storeHi .play0 v s

/-- RD.PLAY0.HI (41_memory_dma_registers.md R332, R260). -/
def execRdPlay0Hi (s : State) : Host.Outcome State Fault Refusal := loadHi .play0 s

/-- WR.END0.LO (41_memory_dma_registers.md R332, R260). -/
def execWrEnd0Lo (v : Word) (s : State) : Host.Outcome State Fault Refusal := storeLo .end0 v s

/-- RD.END0.LO (41_memory_dma_registers.md R332, R260). -/
def execRdEnd0Lo (s : State) : Host.Outcome State Fault Refusal := loadLo .end0 s

/-- WR.END0.HI (41_memory_dma_registers.md R332, R260). -/
def execWrEnd0Hi (v : Word) (s : State) : Host.Outcome State Fault Refusal := storeHi .end0 v s

/-- RD.END0.HI (41_memory_dma_registers.md R332, R260). -/
def execRdEnd0Hi (s : State) : Host.Outcome State Fault Refusal := loadHi .end0 s

/-- WR.INTER0.LO (41_memory_dma_registers.md R332, R260). -/
def execWrInter0Lo (v : Word) (s : State) : Host.Outcome State Fault Refusal := storeLo .inter0 v s

/-- RD.INTER0.LO (41_memory_dma_registers.md R332, R260). -/
def execRdInter0Lo (s : State) : Host.Outcome State Fault Refusal := loadLo .inter0 s

/-- WR.INTER0.HI (41_memory_dma_registers.md R332, R260). -/
def execWrInter0Hi (v : Word) (s : State) : Host.Outcome State Fault Refusal := storeHi .inter0 v s

/-- RD.INTER0.HI (41_memory_dma_registers.md R332, R260). -/
def execRdInter0Hi (s : State) : Host.Outcome State Fault Refusal := loadHi .inter0 s

/-- WR.ADSTAT.LO (41_memory_dma_registers.md R338). -/
def execWrAdstatLo (_v : Word) (s : State) : Host.Outcome State Fault Refusal := inertWrite s

/-- RD.ADSTAT.LO (41_memory_dma_registers.md R338). -/
def execRdAdstatLo (s : State) : Host.Outcome State Fault Refusal := answer (s.play.flags.setWidth 16) (s.setPlay { s.play with flags := 0 })

/-- WR.ADSTAT.HI (41_memory_dma_registers.md R264). -/
def execWrAdstatHi (_v : Word) (s : State) : Host.Outcome State Fault Refusal := inertWrite s

/-- RD.ADSTAT.HI (41_memory_dma_registers.md R264). -/
def execRdAdstatHi (s : State) : Host.Outcome State Fault Refusal := inertRead s

/-- WR.PLAY1.LO (41_memory_dma_registers.md R332, R260). -/
def execWrPlay1Lo (v : Word) (s : State) : Host.Outcome State Fault Refusal := storeLo .play1 v s

/-- RD.PLAY1.LO (41_memory_dma_registers.md R332, R260). -/
def execRdPlay1Lo (s : State) : Host.Outcome State Fault Refusal := loadLo .play1 s

/-- WR.PLAY1.HI (41_memory_dma_registers.md R332, R260). -/
def execWrPlay1Hi (v : Word) (s : State) : Host.Outcome State Fault Refusal := storeHi .play1 v s

/-- RD.PLAY1.HI (41_memory_dma_registers.md R332, R260). -/
def execRdPlay1Hi (s : State) : Host.Outcome State Fault Refusal := loadHi .play1 s

/-- WR.END1.LO (41_memory_dma_registers.md R332, R260). -/
def execWrEnd1Lo (v : Word) (s : State) : Host.Outcome State Fault Refusal := storeLo .end1 v s

/-- RD.END1.LO (41_memory_dma_registers.md R332, R260). -/
def execRdEnd1Lo (s : State) : Host.Outcome State Fault Refusal := loadLo .end1 s

/-- WR.END1.HI (41_memory_dma_registers.md R332, R260). -/
def execWrEnd1Hi (v : Word) (s : State) : Host.Outcome State Fault Refusal := storeHi .end1 v s

/-- RD.END1.HI (41_memory_dma_registers.md R332, R260). -/
def execRdEnd1Hi (s : State) : Host.Outcome State Fault Refusal := loadHi .end1 s

/-- WR.INTER1.LO (41_memory_dma_registers.md R332, R260). -/
def execWrInter1Lo (v : Word) (s : State) : Host.Outcome State Fault Refusal := storeLo .inter1 v s

/-- RD.INTER1.LO (41_memory_dma_registers.md R332, R260). -/
def execRdInter1Lo (s : State) : Host.Outcome State Fault Refusal := loadLo .inter1 s

/-- WR.INTER1.HI (41_memory_dma_registers.md R332, R260). -/
def execWrInter1Hi (v : Word) (s : State) : Host.Outcome State Fault Refusal := storeHi .inter1 v s

/-- RD.INTER1.HI (41_memory_dma_registers.md R332, R260). -/
def execRdInter1Hi (s : State) : Host.Outcome State Fault Refusal := loadHi .inter1 s

end Sys2Proof.Machine
end

