-- ==== Sys2Proof/Machine/ScsiRegs.lean ====
section
/-! DEFINITION. The meanings of WR.KAR, RD.KSTAT and the SCSI rows (41_memory_dma_registers.md R261, R262,
R264, R270 to R278). -/

namespace Sys2Proof.Machine

/-- WR.KAR (41_memory_dma_registers.md R262). -/
def execWrKar (v : Word) (s : State) : Host.Outcome State Fault Refusal := complete (s.setKar (karOf v))

/-- RD.KSTAT (41_memory_dma_registers.md R261). -/
def execRdKstat (s : State) : Host.Outcome State Fault Refusal := 
  answer (memoryStatus s) (s.setPend Pending.zero)

/-- WR.SDATA.LO (41_memory_dma_registers.md R270). -/
def execWrSdataLo (v : Word) (s : State) : Host.Outcome State Fault Refusal := 
  let b := { s.scsi with sout := lowByte v }
  let s1 := if dataDriven b then call (s.setScsi b) (.busSetData b.sout) else s.setScsi b
  complete (if b.sendAct then s1.setScsi { b with drq := false } else s1)

/-- RD.SDATA.LO (41_memory_dma_registers.md R270). -/
def execRdSdataLo (s : State) : Host.Outcome State Fault Refusal := 
  answer (byteWord (busGetData s).1) (busGetData s).2

/-- WR.SDATA.HI (41_memory_dma_registers.md R264). -/
def execWrSdataHi (_v : Word) (s : State) : Host.Outcome State Fault Refusal := inertWrite s

/-- RD.SDATA.HI (41_memory_dma_registers.md R264). -/
def execRdSdataHi (s : State) : Host.Outcome State Fault Refusal := inertRead s

/-- WR.SCMD.LO (41_memory_dma_registers.md R271). -/
def execWrScmdLo (v : Word) (s : State) : Host.Outcome State Fault Refusal := 
  let b := { s.scsi with scmd := lowByte v &&& 0x9F#8 }
  complete (forwardOutputs s.scsi b (s.setScsi b))

/-- RD.SCMD.LO (41_memory_dma_registers.md R271). -/
def execRdScmdLo (s : State) : Host.Outcome State Fault Refusal := answer (byteWord s.scsi.scmd) s

/-- WR.SCMD.HI (41_memory_dma_registers.md R264). -/
def execWrScmdHi (_v : Word) (s : State) : Host.Outcome State Fault Refusal := inertWrite s

/-- RD.SCMD.HI (41_memory_dma_registers.md R264). -/
def execRdScmdHi (s : State) : Host.Outcome State Fault Refusal := inertRead s

/-- WR.SMODE.LO (41_memory_dma_registers.md R272). -/
def execWrSmodeLo (v : Word) (s : State) : Host.Outcome State Fault Refusal := 
  let s1 := s.setScsi { s.scsi with smode := lowByte v &&& 0x02#8 }
  if dmaMode s1.scsi then complete s1
  else
    let s2 := stopTransfer s1
    complete (if s2.scsi.hsAck then setHsAck false s2 else s2)

/-- RD.SMODE.LO (41_memory_dma_registers.md R272). -/
def execRdSmodeLo (s : State) : Host.Outcome State Fault Refusal := answer (byteWord s.scsi.smode) s

/-- WR.SMODE.HI (41_memory_dma_registers.md R264). -/
def execWrSmodeHi (_v : Word) (s : State) : Host.Outcome State Fault Refusal := inertWrite s

/-- RD.SMODE.HI (41_memory_dma_registers.md R264). -/
def execRdSmodeHi (s : State) : Host.Outcome State Fault Refusal := inertRead s

/-- WR.SPHASE.LO (41_memory_dma_registers.md R273). -/
def execWrSphaseLo (v : Word) (s : State) : Host.Outcome State Fault Refusal := 
  complete (s.setScsi { s.scsi with sphase := lowByte v &&& 0x07#8 })

/-- RD.SPHASE.LO (41_memory_dma_registers.md R273). -/
def execRdSphaseLo (s : State) : Host.Outcome State Fault Refusal := answer (byteWord s.scsi.sphase) s

/-- WR.SPHASE.HI (41_memory_dma_registers.md R264). -/
def execWrSphaseHi (_v : Word) (s : State) : Host.Outcome State Fault Refusal := inertWrite s

/-- RD.SPHASE.HI (41_memory_dma_registers.md R264). -/
def execRdSphaseHi (s : State) : Host.Outcome State Fault Refusal := inertRead s

/-- WR.SBUS.LO (41_memory_dma_registers.md R274). -/
def execWrSbusLo (_v : Word) (s : State) : Host.Outcome State Fault Refusal := inertWrite s

/-- RD.SBUS.LO (41_memory_dma_registers.md R274; log 9). -/
def execRdSbusLo (s : State) : Host.Outcome State Fault Refusal := 
  let rst := busGet .rst s
  let bsy := busGet .bsy rst.2
  let req := busGet .req bsy.2
  let msg := busGet .msg req.2
  let cd := busGet .cd msg.2
  let io := busGet .io cd.2
  let sel := busGet .sel io.2
  answer (sbusWord rst.1 bsy.1 req.1 msg.1 cd.1 io.1 sel.1) sel.2

/-- WR.SBUS.HI (41_memory_dma_registers.md R264). -/
def execWrSbusHi (_v : Word) (s : State) : Host.Outcome State Fault Refusal := inertWrite s

/-- RD.SBUS.HI (41_memory_dma_registers.md R264). -/
def execRdSbusHi (s : State) : Host.Outcome State Fault Refusal := inertRead s

/-- WR.SSTAT.LO (41_memory_dma_registers.md R275). -/
def execWrSstatLo (_v : Word) (s : State) : Host.Outcome State Fault Refusal := 
  if dmaMode s.scsi then
    complete (s.setScsi { s.scsi with sendAct := true, recvAct := false, drq := true })
  else complete s

/-- RD.SSTAT.LO (41_memory_dma_registers.md R275; log 9). -/
def execRdSstatLo (s : State) : Host.Outcome State Fault Refusal := 
  let msg := busGet .msg s
  let cd := busGet .cd msg.2
  let io := busGet .io cd.2
  let atn := busGet .atn io.2
  let ack := busGet .ack atn.2
  answer
    (sstatWord s.scsi.drq s.pend.phase (phaseMatches s.scsi.sphase msg.1 cd.1 io.1) atn.1 ack.1)
    ack.2

/-- WR.SSTAT.HI (41_memory_dma_registers.md R264). -/
def execWrSstatHi (_v : Word) (s : State) : Host.Outcome State Fault Refusal := inertWrite s

/-- RD.SSTAT.HI (41_memory_dma_registers.md R264). -/
def execRdSstatHi (s : State) : Host.Outcome State Fault Refusal := inertRead s

/-- WR.SIN.LO (41_memory_dma_registers.md R276). -/
def execWrSinLo (_v : Word) (s : State) : Host.Outcome State Fault Refusal := inertWrite s

/-- RD.SIN.LO (41_memory_dma_registers.md R276). -/
def execRdSinLo (s : State) : Host.Outcome State Fault Refusal := answer (byteWord s.scsi.scache) s

/-- WR.SIN.HI (41_memory_dma_registers.md R264). -/
def execWrSinHi (_v : Word) (s : State) : Host.Outcome State Fault Refusal := inertWrite s

/-- RD.SIN.HI (41_memory_dma_registers.md R264). -/
def execRdSinHi (s : State) : Host.Outcome State Fault Refusal := inertRead s

/-- WR.SRST.LO (41_memory_dma_registers.md R277). -/
def execWrSrstLo (_v : Word) (s : State) : Host.Outcome State Fault Refusal := 
  if dmaMode s.scsi then
    complete
      ((s.setScsi { s.scsi with recvAct := true, sendAct := false, drq := false }).setDma
        { s.dma with ff := false })
  else complete s

/-- RD.SRST.LO (41_memory_dma_registers.md R277). -/
def execRdSrstLo (s : State) : Host.Outcome State Fault Refusal := answer 0 (s.setPend { s.pend with phase := false })

/-- WR.SRST.HI (41_memory_dma_registers.md R264). -/
def execWrSrstHi (_v : Word) (s : State) : Host.Outcome State Fault Refusal := inertWrite s

/-- RD.SRST.HI (41_memory_dma_registers.md R264). -/
def execRdSrstHi (s : State) : Host.Outcome State Fault Refusal := inertRead s

/-- WR.SACK.LO (41_memory_dma_registers.md R278). -/
def execWrSackLo (_v : Word) (s : State) : Host.Outcome State Fault Refusal := inertWrite s

/-- RD.SACK.LO (41_memory_dma_registers.md R278). -/
def execRdSackLo (s : State) : Host.Outcome State Fault Refusal := 
  if s.scsi.recvAct = true ∧ realDma s.dma = false ∧ s.scsi.drq = true then
    answer (byteWord s.scsi.scache) (setHsAck true (s.setScsi { s.scsi with drq := false }))
  else answer (byteWord s.scsi.scache) s

/-- WR.SACK.HI (41_memory_dma_registers.md R264). -/
def execWrSackHi (_v : Word) (s : State) : Host.Outcome State Fault Refusal := inertWrite s

/-- RD.SACK.HI (41_memory_dma_registers.md R264). -/
def execRdSackHi (s : State) : Host.Outcome State Fault Refusal := inertRead s

end Sys2Proof.Machine
end

