-- ==== Sys2Proof/Machine/Dispatch.lean ====
section
/-! DEFINITION. The dispatch: one arm per instruction. -/

namespace Sys2Proof.Machine

def exec (i : Instr) (s : State) : Host.Outcome State Fault Refusal :=
  match i with
  | .wrCar v => Sys2Proof.Machine.execWrCar v s
  | .wrPmode v => Sys2Proof.Machine.execWrPmode v s
  | .wrPaladdr v => Sys2Proof.Machine.execWrPaladdr v s
  | .wrPalwdata v => Sys2Proof.Machine.execWrPalwdata v s
  | .wrPalrdata v => Sys2Proof.Machine.execWrPalrdata v s
  | .wrPalofs0 v => Sys2Proof.Machine.execWrPalofs0 v s
  | .wrPalofs1 v => Sys2Proof.Machine.execWrPalofs1 v s
  | .wrPalofs2 v => Sys2Proof.Machine.execWrPalofs2 v s
  | .wrPalofs3 v => Sys2Proof.Machine.execWrPalofs3 v s
  | .wrPrio0 v => Sys2Proof.Machine.execWrPrio0 v s
  | .wrPrio1 v => Sys2Proof.Machine.execWrPrio1 v s
  | .wrKeyy v => Sys2Proof.Machine.execWrKeyy v s
  | .wrKeyu v => Sys2Proof.Machine.execWrKeyu v s
  | .wrKeyv v => Sys2Proof.Machine.execWrKeyv v s
  | .wrFixcol v => Sys2Proof.Machine.execWrFixcol v s
  | .wrCelctl v => Sys2Proof.Machine.execWrCelctl v s
  | .wrSprmask v => Sys2Proof.Machine.execWrSprmask v s
  | .wrCoef0 v => Sys2Proof.Machine.execWrCoef0 v s
  | .wrCoef1 v => Sys2Proof.Machine.execWrCoef1 v s
  | .wrCoef2 v => Sys2Proof.Machine.execWrCoef2 v s
  | .wrCoef3 v => Sys2Proof.Machine.execWrCoef3 v s
  | .wrCoef4 v => Sys2Proof.Machine.execWrCoef4 v s
  | .wrCoef5 v => Sys2Proof.Machine.execWrCoef5 v s
  | .wrCHigh v => Sys2Proof.Machine.execWrCHigh v s
  | .wrCUnknown sel v => Sys2Proof.Machine.execWrCUnknown sel v s
  | .rdCUnknown sel => Sys2Proof.Machine.execRdCUnknown sel s
  | .wrKar v => Sys2Proof.Machine.execWrKar v s
  | .wrSdataLo v => Sys2Proof.Machine.execWrSdataLo v s
  | .wrSdataHi v => Sys2Proof.Machine.execWrSdataHi v s
  | .wrScmdLo v => Sys2Proof.Machine.execWrScmdLo v s
  | .wrScmdHi v => Sys2Proof.Machine.execWrScmdHi v s
  | .wrSmodeLo v => Sys2Proof.Machine.execWrSmodeLo v s
  | .wrSmodeHi v => Sys2Proof.Machine.execWrSmodeHi v s
  | .wrSphaseLo v => Sys2Proof.Machine.execWrSphaseLo v s
  | .wrSphaseHi v => Sys2Proof.Machine.execWrSphaseHi v s
  | .wrSbusLo v => Sys2Proof.Machine.execWrSbusLo v s
  | .wrSbusHi v => Sys2Proof.Machine.execWrSbusHi v s
  | .wrSstatLo v => Sys2Proof.Machine.execWrSstatLo v s
  | .wrSstatHi v => Sys2Proof.Machine.execWrSstatHi v s
  | .wrSinLo v => Sys2Proof.Machine.execWrSinLo v s
  | .wrSinHi v => Sys2Proof.Machine.execWrSinHi v s
  | .wrSrstLo v => Sys2Proof.Machine.execWrSrstLo v s
  | .wrSrstHi v => Sys2Proof.Machine.execWrSrstHi v s
  | .wrSackLo v => Sys2Proof.Machine.execWrSackLo v s
  | .wrSackHi v => Sys2Proof.Machine.execWrSackHi v s
  | .wrDmaaddrLo v => Sys2Proof.Machine.execWrDmaaddrLo v s
  | .wrDmaaddrHi v => Sys2Proof.Machine.execWrDmaaddrHi v s
  | .wrDmasizeLo v => Sys2Proof.Machine.execWrDmasizeLo v s
  | .wrDmasizeHi v => Sys2Proof.Machine.execWrDmasizeHi v s
  | .wrDmactlLo v => Sys2Proof.Machine.execWrDmactlLo v s
  | .wrDmactlHi v => Sys2Proof.Machine.execWrDmactlHi v s
  | .wrKramraLo v => Sys2Proof.Machine.execWrKramraLo v s
  | .wrKramraHi v => Sys2Proof.Machine.execWrKramraHi v s
  | .wrKramwaLo v => Sys2Proof.Machine.execWrKramwaLo v s
  | .wrKramwaHi v => Sys2Proof.Machine.execWrKramwaHi v s
  | .wrKramdataLo v => Sys2Proof.Machine.execWrKramdataLo v s
  | .wrKramdataHi v => Sys2Proof.Machine.execWrKramdataHi v s
  | .wrPageLo v => Sys2Proof.Machine.execWrPageLo v s
  | .wrPageHi v => Sys2Proof.Machine.execWrPageHi v s
  | .wrMpaddrLo v => Sys2Proof.Machine.execWrMpaddrLo v s
  | .wrMpaddrHi v => Sys2Proof.Machine.execWrMpaddrHi v s
  | .wrMpdataLo v => Sys2Proof.Machine.execWrMpdataLo v s
  | .wrMpdataHi v => Sys2Proof.Machine.execWrMpdataHi v s
  | .wrMpctlLo v => Sys2Proof.Machine.execWrMpctlLo v s
  | .wrMpctlHi v => Sys2Proof.Machine.execWrMpctlHi v s
  | .wrBgendlessLo v => Sys2Proof.Machine.execWrBgendlessLo v s
  | .wrBgendlessHi v => Sys2Proof.Machine.execWrBgendlessHi v s
  | .wrBgmodeLo v => Sys2Proof.Machine.execWrBgmodeLo v s
  | .wrBgmodeHi v => Sys2Proof.Machine.execWrBgmodeHi v s
  | .wrBat0Lo v => Sys2Proof.Machine.execWrBat0Lo v s
  | .wrBat0Hi v => Sys2Proof.Machine.execWrBat0Hi v s
  | .wrBat1Lo v => Sys2Proof.Machine.execWrBat1Lo v s
  | .wrBat1Hi v => Sys2Proof.Machine.execWrBat1Hi v s
  | .wrBat2Lo v => Sys2Proof.Machine.execWrBat2Lo v s
  | .wrBat2Hi v => Sys2Proof.Machine.execWrBat2Hi v s
  | .wrBat3Lo v => Sys2Proof.Machine.execWrBat3Lo v s
  | .wrBat3Hi v => Sys2Proof.Machine.execWrBat3Hi v s
  | .wrCg0Lo v => Sys2Proof.Machine.execWrCg0Lo v s
  | .wrCg0Hi v => Sys2Proof.Machine.execWrCg0Hi v s
  | .wrCg1Lo v => Sys2Proof.Machine.execWrCg1Lo v s
  | .wrCg1Hi v => Sys2Proof.Machine.execWrCg1Hi v s
  | .wrCg2Lo v => Sys2Proof.Machine.execWrCg2Lo v s
  | .wrCg2Hi v => Sys2Proof.Machine.execWrCg2Hi v s
  | .wrCg3Lo v => Sys2Proof.Machine.execWrCg3Lo v s
  | .wrCg3Hi v => Sys2Proof.Machine.execWrCg3Hi v s
  | .wrSubbat0Lo v => Sys2Proof.Machine.execWrSubbat0Lo v s
  | .wrSubbat0Hi v => Sys2Proof.Machine.execWrSubbat0Hi v s
  | .wrSubbat1Lo v => Sys2Proof.Machine.execWrSubbat1Lo v s
  | .wrSubbat1Hi v => Sys2Proof.Machine.execWrSubbat1Hi v s
  | .wrSubbat2Lo v => Sys2Proof.Machine.execWrSubbat2Lo v s
  | .wrSubbat2Hi v => Sys2Proof.Machine.execWrSubbat2Hi v s
  | .wrSubbat3Lo v => Sys2Proof.Machine.execWrSubbat3Lo v s
  | .wrSubbat3Hi v => Sys2Proof.Machine.execWrSubbat3Hi v s
  | .wrSubcg0Lo v => Sys2Proof.Machine.execWrSubcg0Lo v s
  | .wrSubcg0Hi v => Sys2Proof.Machine.execWrSubcg0Hi v s
  | .wrSubcg1Lo v => Sys2Proof.Machine.execWrSubcg1Lo v s
  | .wrSubcg1Hi v => Sys2Proof.Machine.execWrSubcg1Hi v s
  | .wrSubcg2Lo v => Sys2Proof.Machine.execWrSubcg2Lo v s
  | .wrSubcg2Hi v => Sys2Proof.Machine.execWrSubcg2Hi v s
  | .wrSubcg3Lo v => Sys2Proof.Machine.execWrSubcg3Lo v s
  | .wrSubcg3Hi v => Sys2Proof.Machine.execWrSubcg3Hi v s
  | .wrScrx0Lo v => Sys2Proof.Machine.execWrScrx0Lo v s
  | .wrScrx0Hi v => Sys2Proof.Machine.execWrScrx0Hi v s
  | .wrScry0Lo v => Sys2Proof.Machine.execWrScry0Lo v s
  | .wrScry0Hi v => Sys2Proof.Machine.execWrScry0Hi v s
  | .wrScrx1Lo v => Sys2Proof.Machine.execWrScrx1Lo v s
  | .wrScrx1Hi v => Sys2Proof.Machine.execWrScrx1Hi v s
  | .wrScry1Lo v => Sys2Proof.Machine.execWrScry1Lo v s
  | .wrScry1Hi v => Sys2Proof.Machine.execWrScry1Hi v s
  | .wrScrx2Lo v => Sys2Proof.Machine.execWrScrx2Lo v s
  | .wrScrx2Hi v => Sys2Proof.Machine.execWrScrx2Hi v s
  | .wrScry2Lo v => Sys2Proof.Machine.execWrScry2Lo v s
  | .wrScry2Hi v => Sys2Proof.Machine.execWrScry2Hi v s
  | .wrScrx3Lo v => Sys2Proof.Machine.execWrScrx3Lo v s
  | .wrScrx3Hi v => Sys2Proof.Machine.execWrScrx3Hi v s
  | .wrScry3Lo v => Sys2Proof.Machine.execWrScry3Lo v s
  | .wrScry3Hi v => Sys2Proof.Machine.execWrScry3Hi v s
  | .wrAffaLo v => Sys2Proof.Machine.execWrAffaLo v s
  | .wrAffaHi v => Sys2Proof.Machine.execWrAffaHi v s
  | .wrAffbLo v => Sys2Proof.Machine.execWrAffbLo v s
  | .wrAffbHi v => Sys2Proof.Machine.execWrAffbHi v s
  | .wrAffcLo v => Sys2Proof.Machine.execWrAffcLo v s
  | .wrAffcHi v => Sys2Proof.Machine.execWrAffcHi v s
  | .wrAffdLo v => Sys2Proof.Machine.execWrAffdLo v s
  | .wrAffdHi v => Sys2Proof.Machine.execWrAffdHi v s
  | .wrCtrxLo v => Sys2Proof.Machine.execWrCtrxLo v s
  | .wrCtrxHi v => Sys2Proof.Machine.execWrCtrxHi v s
  | .wrCtryLo v => Sys2Proof.Machine.execWrCtryLo v s
  | .wrCtryHi v => Sys2Proof.Machine.execWrCtryHi v s
  | .wrBgsize0Lo v => Sys2Proof.Machine.execWrBgsize0Lo v s
  | .wrBgsize0Hi v => Sys2Proof.Machine.execWrBgsize0Hi v s
  | .wrBgsize1Lo v => Sys2Proof.Machine.execWrBgsize1Lo v s
  | .wrBgsize1Hi v => Sys2Proof.Machine.execWrBgsize1Hi v s
  | .wrBgsize2Lo v => Sys2Proof.Machine.execWrBgsize2Lo v s
  | .wrBgsize2Hi v => Sys2Proof.Machine.execWrBgsize2Hi v s
  | .wrBgsize3Lo v => Sys2Proof.Machine.execWrBgsize3Lo v s
  | .wrBgsize3Hi v => Sys2Proof.Machine.execWrBgsize3Hi v s
  | .wrOvlctlLo v => Sys2Proof.Machine.execWrOvlctlLo v s
  | .wrOvlctlHi v => Sys2Proof.Machine.execWrOvlctlHi v s
  | .wrOvladdrLo v => Sys2Proof.Machine.execWrOvladdrLo v s
  | .wrOvladdrHi v => Sys2Proof.Machine.execWrOvladdrHi v s
  | .wrOvlblocksLo v => Sys2Proof.Machine.execWrOvlblocksLo v s
  | .wrOvlblocksHi v => Sys2Proof.Machine.execWrOvlblocksHi v s
  | .wrRirqlineLo v => Sys2Proof.Machine.execWrRirqlineLo v s
  | .wrRirqlineHi v => Sys2Proof.Machine.execWrRirqlineHi v s
  | .wrAdctlLo v => Sys2Proof.Machine.execWrAdctlLo v s
  | .wrAdctlHi v => Sys2Proof.Machine.execWrAdctlHi v s
  | .wrPlay0Lo v => Sys2Proof.Machine.execWrPlay0Lo v s
  | .wrPlay0Hi v => Sys2Proof.Machine.execWrPlay0Hi v s
  | .wrEnd0Lo v => Sys2Proof.Machine.execWrEnd0Lo v s
  | .wrEnd0Hi v => Sys2Proof.Machine.execWrEnd0Hi v s
  | .wrInter0Lo v => Sys2Proof.Machine.execWrInter0Lo v s
  | .wrInter0Hi v => Sys2Proof.Machine.execWrInter0Hi v s
  | .wrAdstatLo v => Sys2Proof.Machine.execWrAdstatLo v s
  | .wrAdstatHi v => Sys2Proof.Machine.execWrAdstatHi v s
  | .wrPlay1Lo v => Sys2Proof.Machine.execWrPlay1Lo v s
  | .wrPlay1Hi v => Sys2Proof.Machine.execWrPlay1Hi v s
  | .wrEnd1Lo v => Sys2Proof.Machine.execWrEnd1Lo v s
  | .wrEnd1Hi v => Sys2Proof.Machine.execWrEnd1Hi v s
  | .wrInter1Lo v => Sys2Proof.Machine.execWrInter1Lo v s
  | .wrInter1Hi v => Sys2Proof.Machine.execWrInter1Hi v s
  | .wrKUnknown high sel v => Sys2Proof.Machine.execWrKUnknown high sel v s
  | .rdKUnknown high sel => Sys2Proof.Machine.execRdKUnknown high sel s
  | .wrNospace space v => Sys2Proof.Machine.execWrNospace space v s
  | .rdNospace space => Sys2Proof.Machine.execRdNospace space s
  | .run n => Sys2Proof.Machine.execRun n s
  | .reset t => Sys2Proof.Machine.execReset t s
  | .save => Sys2Proof.Machine.execSave s
  | .restore x => Sys2Proof.Machine.execRestore x s
  | .playfetch c => Sys2Proof.Machine.execPlayfetch c s
  | .rdCstat => Sys2Proof.Machine.execRdCstat s
  | .rdPmode => Sys2Proof.Machine.execRdPmode s
  | .rdPaladdr => Sys2Proof.Machine.execRdPaladdr s
  | .rdPalwdata => Sys2Proof.Machine.execRdPalwdata s
  | .rdPalrdata => Sys2Proof.Machine.execRdPalrdata s
  | .rdPalofs0 => Sys2Proof.Machine.execRdPalofs0 s
  | .rdPalofs1 => Sys2Proof.Machine.execRdPalofs1 s
  | .rdPalofs2 => Sys2Proof.Machine.execRdPalofs2 s
  | .rdPalofs3 => Sys2Proof.Machine.execRdPalofs3 s
  | .rdPrio0 => Sys2Proof.Machine.execRdPrio0 s
  | .rdPrio1 => Sys2Proof.Machine.execRdPrio1 s
  | .rdKeyy => Sys2Proof.Machine.execRdKeyy s
  | .rdKeyu => Sys2Proof.Machine.execRdKeyu s
  | .rdKeyv => Sys2Proof.Machine.execRdKeyv s
  | .rdFixcol => Sys2Proof.Machine.execRdFixcol s
  | .rdCelctl => Sys2Proof.Machine.execRdCelctl s
  | .rdSprmask => Sys2Proof.Machine.execRdSprmask s
  | .rdCoef0 => Sys2Proof.Machine.execRdCoef0 s
  | .rdCoef1 => Sys2Proof.Machine.execRdCoef1 s
  | .rdCoef2 => Sys2Proof.Machine.execRdCoef2 s
  | .rdCoef3 => Sys2Proof.Machine.execRdCoef3 s
  | .rdCoef4 => Sys2Proof.Machine.execRdCoef4 s
  | .rdCoef5 => Sys2Proof.Machine.execRdCoef5 s
  | .rdCHigh => Sys2Proof.Machine.execRdCHigh s
  | .rdKstat => Sys2Proof.Machine.execRdKstat s
  | .rdSdataLo => Sys2Proof.Machine.execRdSdataLo s
  | .rdSdataHi => Sys2Proof.Machine.execRdSdataHi s
  | .rdScmdLo => Sys2Proof.Machine.execRdScmdLo s
  | .rdScmdHi => Sys2Proof.Machine.execRdScmdHi s
  | .rdSmodeLo => Sys2Proof.Machine.execRdSmodeLo s
  | .rdSmodeHi => Sys2Proof.Machine.execRdSmodeHi s
  | .rdSphaseLo => Sys2Proof.Machine.execRdSphaseLo s
  | .rdSphaseHi => Sys2Proof.Machine.execRdSphaseHi s
  | .rdSbusLo => Sys2Proof.Machine.execRdSbusLo s
  | .rdSbusHi => Sys2Proof.Machine.execRdSbusHi s
  | .rdSstatLo => Sys2Proof.Machine.execRdSstatLo s
  | .rdSstatHi => Sys2Proof.Machine.execRdSstatHi s
  | .rdSinLo => Sys2Proof.Machine.execRdSinLo s
  | .rdSinHi => Sys2Proof.Machine.execRdSinHi s
  | .rdSrstLo => Sys2Proof.Machine.execRdSrstLo s
  | .rdSrstHi => Sys2Proof.Machine.execRdSrstHi s
  | .rdSackLo => Sys2Proof.Machine.execRdSackLo s
  | .rdSackHi => Sys2Proof.Machine.execRdSackHi s
  | .rdDmaaddrLo => Sys2Proof.Machine.execRdDmaaddrLo s
  | .rdDmaaddrHi => Sys2Proof.Machine.execRdDmaaddrHi s
  | .rdDmasizeLo => Sys2Proof.Machine.execRdDmasizeLo s
  | .rdDmasizeHi => Sys2Proof.Machine.execRdDmasizeHi s
  | .rdDmactlLo => Sys2Proof.Machine.execRdDmactlLo s
  | .rdDmactlHi => Sys2Proof.Machine.execRdDmactlHi s
  | .rdKramraLo => Sys2Proof.Machine.execRdKramraLo s
  | .rdKramraHi => Sys2Proof.Machine.execRdKramraHi s
  | .rdKramwaLo => Sys2Proof.Machine.execRdKramwaLo s
  | .rdKramwaHi => Sys2Proof.Machine.execRdKramwaHi s
  | .rdKramdataLo => Sys2Proof.Machine.execRdKramdataLo s
  | .rdKramdataHi => Sys2Proof.Machine.execRdKramdataHi s
  | .rdPageLo => Sys2Proof.Machine.execRdPageLo s
  | .rdPageHi => Sys2Proof.Machine.execRdPageHi s
  | .rdMpaddrLo => Sys2Proof.Machine.execRdMpaddrLo s
  | .rdMpaddrHi => Sys2Proof.Machine.execRdMpaddrHi s
  | .rdMpdataLo => Sys2Proof.Machine.execRdMpdataLo s
  | .rdMpdataHi => Sys2Proof.Machine.execRdMpdataHi s
  | .rdMpctlLo => Sys2Proof.Machine.execRdMpctlLo s
  | .rdMpctlHi => Sys2Proof.Machine.execRdMpctlHi s
  | .rdBgendlessLo => Sys2Proof.Machine.execRdBgendlessLo s
  | .rdBgendlessHi => Sys2Proof.Machine.execRdBgendlessHi s
  | .rdBgmodeLo => Sys2Proof.Machine.execRdBgmodeLo s
  | .rdBgmodeHi => Sys2Proof.Machine.execRdBgmodeHi s
  | .rdBat0Lo => Sys2Proof.Machine.execRdBat0Lo s
  | .rdBat0Hi => Sys2Proof.Machine.execRdBat0Hi s
  | .rdBat1Lo => Sys2Proof.Machine.execRdBat1Lo s
  | .rdBat1Hi => Sys2Proof.Machine.execRdBat1Hi s
  | .rdBat2Lo => Sys2Proof.Machine.execRdBat2Lo s
  | .rdBat2Hi => Sys2Proof.Machine.execRdBat2Hi s
  | .rdBat3Lo => Sys2Proof.Machine.execRdBat3Lo s
  | .rdBat3Hi => Sys2Proof.Machine.execRdBat3Hi s
  | .rdCg0Lo => Sys2Proof.Machine.execRdCg0Lo s
  | .rdCg0Hi => Sys2Proof.Machine.execRdCg0Hi s
  | .rdCg1Lo => Sys2Proof.Machine.execRdCg1Lo s
  | .rdCg1Hi => Sys2Proof.Machine.execRdCg1Hi s
  | .rdCg2Lo => Sys2Proof.Machine.execRdCg2Lo s
  | .rdCg2Hi => Sys2Proof.Machine.execRdCg2Hi s
  | .rdCg3Lo => Sys2Proof.Machine.execRdCg3Lo s
  | .rdCg3Hi => Sys2Proof.Machine.execRdCg3Hi s
  | .rdSubbat0Lo => Sys2Proof.Machine.execRdSubbat0Lo s
  | .rdSubbat0Hi => Sys2Proof.Machine.execRdSubbat0Hi s
  | .rdSubbat1Lo => Sys2Proof.Machine.execRdSubbat1Lo s
  | .rdSubbat1Hi => Sys2Proof.Machine.execRdSubbat1Hi s
  | .rdSubbat2Lo => Sys2Proof.Machine.execRdSubbat2Lo s
  | .rdSubbat2Hi => Sys2Proof.Machine.execRdSubbat2Hi s
  | .rdSubbat3Lo => Sys2Proof.Machine.execRdSubbat3Lo s
  | .rdSubbat3Hi => Sys2Proof.Machine.execRdSubbat3Hi s
  | .rdSubcg0Lo => Sys2Proof.Machine.execRdSubcg0Lo s
  | .rdSubcg0Hi => Sys2Proof.Machine.execRdSubcg0Hi s
  | .rdSubcg1Lo => Sys2Proof.Machine.execRdSubcg1Lo s
  | .rdSubcg1Hi => Sys2Proof.Machine.execRdSubcg1Hi s
  | .rdSubcg2Lo => Sys2Proof.Machine.execRdSubcg2Lo s
  | .rdSubcg2Hi => Sys2Proof.Machine.execRdSubcg2Hi s
  | .rdSubcg3Lo => Sys2Proof.Machine.execRdSubcg3Lo s
  | .rdSubcg3Hi => Sys2Proof.Machine.execRdSubcg3Hi s
  | .rdScrx0Lo => Sys2Proof.Machine.execRdScrx0Lo s
  | .rdScrx0Hi => Sys2Proof.Machine.execRdScrx0Hi s
  | .rdScry0Lo => Sys2Proof.Machine.execRdScry0Lo s
  | .rdScry0Hi => Sys2Proof.Machine.execRdScry0Hi s
  | .rdScrx1Lo => Sys2Proof.Machine.execRdScrx1Lo s
  | .rdScrx1Hi => Sys2Proof.Machine.execRdScrx1Hi s
  | .rdScry1Lo => Sys2Proof.Machine.execRdScry1Lo s
  | .rdScry1Hi => Sys2Proof.Machine.execRdScry1Hi s
  | .rdScrx2Lo => Sys2Proof.Machine.execRdScrx2Lo s
  | .rdScrx2Hi => Sys2Proof.Machine.execRdScrx2Hi s
  | .rdScry2Lo => Sys2Proof.Machine.execRdScry2Lo s
  | .rdScry2Hi => Sys2Proof.Machine.execRdScry2Hi s
  | .rdScrx3Lo => Sys2Proof.Machine.execRdScrx3Lo s
  | .rdScrx3Hi => Sys2Proof.Machine.execRdScrx3Hi s
  | .rdScry3Lo => Sys2Proof.Machine.execRdScry3Lo s
  | .rdScry3Hi => Sys2Proof.Machine.execRdScry3Hi s
  | .rdAffaLo => Sys2Proof.Machine.execRdAffaLo s
  | .rdAffaHi => Sys2Proof.Machine.execRdAffaHi s
  | .rdAffbLo => Sys2Proof.Machine.execRdAffbLo s
  | .rdAffbHi => Sys2Proof.Machine.execRdAffbHi s
  | .rdAffcLo => Sys2Proof.Machine.execRdAffcLo s
  | .rdAffcHi => Sys2Proof.Machine.execRdAffcHi s
  | .rdAffdLo => Sys2Proof.Machine.execRdAffdLo s
  | .rdAffdHi => Sys2Proof.Machine.execRdAffdHi s
  | .rdCtrxLo => Sys2Proof.Machine.execRdCtrxLo s
  | .rdCtrxHi => Sys2Proof.Machine.execRdCtrxHi s
  | .rdCtryLo => Sys2Proof.Machine.execRdCtryLo s
  | .rdCtryHi => Sys2Proof.Machine.execRdCtryHi s
  | .rdBgsize0Lo => Sys2Proof.Machine.execRdBgsize0Lo s
  | .rdBgsize0Hi => Sys2Proof.Machine.execRdBgsize0Hi s
  | .rdBgsize1Lo => Sys2Proof.Machine.execRdBgsize1Lo s
  | .rdBgsize1Hi => Sys2Proof.Machine.execRdBgsize1Hi s
  | .rdBgsize2Lo => Sys2Proof.Machine.execRdBgsize2Lo s
  | .rdBgsize2Hi => Sys2Proof.Machine.execRdBgsize2Hi s
  | .rdBgsize3Lo => Sys2Proof.Machine.execRdBgsize3Lo s
  | .rdBgsize3Hi => Sys2Proof.Machine.execRdBgsize3Hi s
  | .rdOvlctlLo => Sys2Proof.Machine.execRdOvlctlLo s
  | .rdOvlctlHi => Sys2Proof.Machine.execRdOvlctlHi s
  | .rdOvladdrLo => Sys2Proof.Machine.execRdOvladdrLo s
  | .rdOvladdrHi => Sys2Proof.Machine.execRdOvladdrHi s
  | .rdOvlblocksLo => Sys2Proof.Machine.execRdOvlblocksLo s
  | .rdOvlblocksHi => Sys2Proof.Machine.execRdOvlblocksHi s
  | .rdRirqlineLo => Sys2Proof.Machine.execRdRirqlineLo s
  | .rdRirqlineHi => Sys2Proof.Machine.execRdRirqlineHi s
  | .rdAdctlLo => Sys2Proof.Machine.execRdAdctlLo s
  | .rdAdctlHi => Sys2Proof.Machine.execRdAdctlHi s
  | .rdPlay0Lo => Sys2Proof.Machine.execRdPlay0Lo s
  | .rdPlay0Hi => Sys2Proof.Machine.execRdPlay0Hi s
  | .rdEnd0Lo => Sys2Proof.Machine.execRdEnd0Lo s
  | .rdEnd0Hi => Sys2Proof.Machine.execRdEnd0Hi s
  | .rdInter0Lo => Sys2Proof.Machine.execRdInter0Lo s
  | .rdInter0Hi => Sys2Proof.Machine.execRdInter0Hi s
  | .rdAdstatLo => Sys2Proof.Machine.execRdAdstatLo s
  | .rdAdstatHi => Sys2Proof.Machine.execRdAdstatHi s
  | .rdPlay1Lo => Sys2Proof.Machine.execRdPlay1Lo s
  | .rdPlay1Hi => Sys2Proof.Machine.execRdPlay1Hi s
  | .rdEnd1Lo => Sys2Proof.Machine.execRdEnd1Lo s
  | .rdEnd1Hi => Sys2Proof.Machine.execRdEnd1Hi s
  | .rdInter1Lo => Sys2Proof.Machine.execRdInter1Lo s
  | .rdInter1Hi => Sys2Proof.Machine.execRdInter1Hi s

end Sys2Proof.Machine
end

