-- ==== Sys2Proof/WellFormed.lean ====
section
/-! DEFINITION. Well-formed instructions: what a request and the decoding rule can produce (30_encoding.md R140, R142,
R143, R150). -/

namespace Sys2Proof

/-- The selector names a controller sub-register (30_encoding.md R148). -/
def cSelKnown (sel : BitVec 7) : Bool := decide (sel.toNat ≤ 0x15)

/-- The selector names a memory/DMA sub-register (30_encoding.md R149, R150). -/
def kSelKnown (sel : BitVec 7) : Bool :=
  decide (sel.toNat ≤ 0x13) || decide (sel.toNat = 0x15) ||
    (decide (0x20 ≤ sel.toNat) && decide (sel.toNat ≤ 0x41)) ||
    (decide (0x44 ≤ sel.toNat) && decide (sel.toNat ≤ 0x47)) ||
    (decide (0x50 ≤ sel.toNat) && decide (sel.toNat ≤ 0x57))

/-- The space field selects a register space (20_memory.md R101). -/
def spaceKnown (space : BitVec 3) : Bool := space == 0b011#3 || space == 0b110#3

/-- Well-formed: a fallback row's selector or space is none that a more specific row claims; the operands of every
other row are unconstrained. -/
def Instr.wf : Instr → Bool
  | .wrCar _ => true
  | .wrPmode _ => true
  | .wrPaladdr _ => true
  | .wrPalwdata _ => true
  | .wrPalrdata _ => true
  | .wrPalofs0 _ => true
  | .wrPalofs1 _ => true
  | .wrPalofs2 _ => true
  | .wrPalofs3 _ => true
  | .wrPrio0 _ => true
  | .wrPrio1 _ => true
  | .wrKeyy _ => true
  | .wrKeyu _ => true
  | .wrKeyv _ => true
  | .wrFixcol _ => true
  | .wrCelctl _ => true
  | .wrSprmask _ => true
  | .wrCoef0 _ => true
  | .wrCoef1 _ => true
  | .wrCoef2 _ => true
  | .wrCoef3 _ => true
  | .wrCoef4 _ => true
  | .wrCoef5 _ => true
  | .wrCHigh _ => true
  | .wrCUnknown sel _ => !cSelKnown sel
  | .rdCUnknown sel => !cSelKnown sel
  | .wrKar _ => true
  | .wrSdataLo _ => true
  | .wrSdataHi _ => true
  | .wrScmdLo _ => true
  | .wrScmdHi _ => true
  | .wrSmodeLo _ => true
  | .wrSmodeHi _ => true
  | .wrSphaseLo _ => true
  | .wrSphaseHi _ => true
  | .wrSbusLo _ => true
  | .wrSbusHi _ => true
  | .wrSstatLo _ => true
  | .wrSstatHi _ => true
  | .wrSinLo _ => true
  | .wrSinHi _ => true
  | .wrSrstLo _ => true
  | .wrSrstHi _ => true
  | .wrSackLo _ => true
  | .wrSackHi _ => true
  | .wrDmaaddrLo _ => true
  | .wrDmaaddrHi _ => true
  | .wrDmasizeLo _ => true
  | .wrDmasizeHi _ => true
  | .wrDmactlLo _ => true
  | .wrDmactlHi _ => true
  | .wrKramraLo _ => true
  | .wrKramraHi _ => true
  | .wrKramwaLo _ => true
  | .wrKramwaHi _ => true
  | .wrKramdataLo _ => true
  | .wrKramdataHi _ => true
  | .wrPageLo _ => true
  | .wrPageHi _ => true
  | .wrMpaddrLo _ => true
  | .wrMpaddrHi _ => true
  | .wrMpdataLo _ => true
  | .wrMpdataHi _ => true
  | .wrMpctlLo _ => true
  | .wrMpctlHi _ => true
  | .wrBgendlessLo _ => true
  | .wrBgendlessHi _ => true
  | .wrBgmodeLo _ => true
  | .wrBgmodeHi _ => true
  | .wrBat0Lo _ => true
  | .wrBat0Hi _ => true
  | .wrBat1Lo _ => true
  | .wrBat1Hi _ => true
  | .wrBat2Lo _ => true
  | .wrBat2Hi _ => true
  | .wrBat3Lo _ => true
  | .wrBat3Hi _ => true
  | .wrCg0Lo _ => true
  | .wrCg0Hi _ => true
  | .wrCg1Lo _ => true
  | .wrCg1Hi _ => true
  | .wrCg2Lo _ => true
  | .wrCg2Hi _ => true
  | .wrCg3Lo _ => true
  | .wrCg3Hi _ => true
  | .wrSubbat0Lo _ => true
  | .wrSubbat0Hi _ => true
  | .wrSubbat1Lo _ => true
  | .wrSubbat1Hi _ => true
  | .wrSubbat2Lo _ => true
  | .wrSubbat2Hi _ => true
  | .wrSubbat3Lo _ => true
  | .wrSubbat3Hi _ => true
  | .wrSubcg0Lo _ => true
  | .wrSubcg0Hi _ => true
  | .wrSubcg1Lo _ => true
  | .wrSubcg1Hi _ => true
  | .wrSubcg2Lo _ => true
  | .wrSubcg2Hi _ => true
  | .wrSubcg3Lo _ => true
  | .wrSubcg3Hi _ => true
  | .wrScrx0Lo _ => true
  | .wrScrx0Hi _ => true
  | .wrScry0Lo _ => true
  | .wrScry0Hi _ => true
  | .wrScrx1Lo _ => true
  | .wrScrx1Hi _ => true
  | .wrScry1Lo _ => true
  | .wrScry1Hi _ => true
  | .wrScrx2Lo _ => true
  | .wrScrx2Hi _ => true
  | .wrScry2Lo _ => true
  | .wrScry2Hi _ => true
  | .wrScrx3Lo _ => true
  | .wrScrx3Hi _ => true
  | .wrScry3Lo _ => true
  | .wrScry3Hi _ => true
  | .wrAffaLo _ => true
  | .wrAffaHi _ => true
  | .wrAffbLo _ => true
  | .wrAffbHi _ => true
  | .wrAffcLo _ => true
  | .wrAffcHi _ => true
  | .wrAffdLo _ => true
  | .wrAffdHi _ => true
  | .wrCtrxLo _ => true
  | .wrCtrxHi _ => true
  | .wrCtryLo _ => true
  | .wrCtryHi _ => true
  | .wrBgsize0Lo _ => true
  | .wrBgsize0Hi _ => true
  | .wrBgsize1Lo _ => true
  | .wrBgsize1Hi _ => true
  | .wrBgsize2Lo _ => true
  | .wrBgsize2Hi _ => true
  | .wrBgsize3Lo _ => true
  | .wrBgsize3Hi _ => true
  | .wrOvlctlLo _ => true
  | .wrOvlctlHi _ => true
  | .wrOvladdrLo _ => true
  | .wrOvladdrHi _ => true
  | .wrOvlblocksLo _ => true
  | .wrOvlblocksHi _ => true
  | .wrRirqlineLo _ => true
  | .wrRirqlineHi _ => true
  | .wrAdctlLo _ => true
  | .wrAdctlHi _ => true
  | .wrPlay0Lo _ => true
  | .wrPlay0Hi _ => true
  | .wrEnd0Lo _ => true
  | .wrEnd0Hi _ => true
  | .wrInter0Lo _ => true
  | .wrInter0Hi _ => true
  | .wrAdstatLo _ => true
  | .wrAdstatHi _ => true
  | .wrPlay1Lo _ => true
  | .wrPlay1Hi _ => true
  | .wrEnd1Lo _ => true
  | .wrEnd1Hi _ => true
  | .wrInter1Lo _ => true
  | .wrInter1Hi _ => true
  | .wrKUnknown _ sel _ => !kSelKnown sel
  | .rdKUnknown _ sel => !kSelKnown sel
  | .wrNospace space _ => !spaceKnown space
  | .rdNospace space => !spaceKnown space
  | .run _ => true
  | .reset _ => true
  | .save => true
  | .restore _ => true
  | .playfetch _ => true
  | .rdCstat => true
  | .rdPmode => true
  | .rdPaladdr => true
  | .rdPalwdata => true
  | .rdPalrdata => true
  | .rdPalofs0 => true
  | .rdPalofs1 => true
  | .rdPalofs2 => true
  | .rdPalofs3 => true
  | .rdPrio0 => true
  | .rdPrio1 => true
  | .rdKeyy => true
  | .rdKeyu => true
  | .rdKeyv => true
  | .rdFixcol => true
  | .rdCelctl => true
  | .rdSprmask => true
  | .rdCoef0 => true
  | .rdCoef1 => true
  | .rdCoef2 => true
  | .rdCoef3 => true
  | .rdCoef4 => true
  | .rdCoef5 => true
  | .rdCHigh => true
  | .rdKstat => true
  | .rdSdataLo => true
  | .rdSdataHi => true
  | .rdScmdLo => true
  | .rdScmdHi => true
  | .rdSmodeLo => true
  | .rdSmodeHi => true
  | .rdSphaseLo => true
  | .rdSphaseHi => true
  | .rdSbusLo => true
  | .rdSbusHi => true
  | .rdSstatLo => true
  | .rdSstatHi => true
  | .rdSinLo => true
  | .rdSinHi => true
  | .rdSrstLo => true
  | .rdSrstHi => true
  | .rdSackLo => true
  | .rdSackHi => true
  | .rdDmaaddrLo => true
  | .rdDmaaddrHi => true
  | .rdDmasizeLo => true
  | .rdDmasizeHi => true
  | .rdDmactlLo => true
  | .rdDmactlHi => true
  | .rdKramraLo => true
  | .rdKramraHi => true
  | .rdKramwaLo => true
  | .rdKramwaHi => true
  | .rdKramdataLo => true
  | .rdKramdataHi => true
  | .rdPageLo => true
  | .rdPageHi => true
  | .rdMpaddrLo => true
  | .rdMpaddrHi => true
  | .rdMpdataLo => true
  | .rdMpdataHi => true
  | .rdMpctlLo => true
  | .rdMpctlHi => true
  | .rdBgendlessLo => true
  | .rdBgendlessHi => true
  | .rdBgmodeLo => true
  | .rdBgmodeHi => true
  | .rdBat0Lo => true
  | .rdBat0Hi => true
  | .rdBat1Lo => true
  | .rdBat1Hi => true
  | .rdBat2Lo => true
  | .rdBat2Hi => true
  | .rdBat3Lo => true
  | .rdBat3Hi => true
  | .rdCg0Lo => true
  | .rdCg0Hi => true
  | .rdCg1Lo => true
  | .rdCg1Hi => true
  | .rdCg2Lo => true
  | .rdCg2Hi => true
  | .rdCg3Lo => true
  | .rdCg3Hi => true
  | .rdSubbat0Lo => true
  | .rdSubbat0Hi => true
  | .rdSubbat1Lo => true
  | .rdSubbat1Hi => true
  | .rdSubbat2Lo => true
  | .rdSubbat2Hi => true
  | .rdSubbat3Lo => true
  | .rdSubbat3Hi => true
  | .rdSubcg0Lo => true
  | .rdSubcg0Hi => true
  | .rdSubcg1Lo => true
  | .rdSubcg1Hi => true
  | .rdSubcg2Lo => true
  | .rdSubcg2Hi => true
  | .rdSubcg3Lo => true
  | .rdSubcg3Hi => true
  | .rdScrx0Lo => true
  | .rdScrx0Hi => true
  | .rdScry0Lo => true
  | .rdScry0Hi => true
  | .rdScrx1Lo => true
  | .rdScrx1Hi => true
  | .rdScry1Lo => true
  | .rdScry1Hi => true
  | .rdScrx2Lo => true
  | .rdScrx2Hi => true
  | .rdScry2Lo => true
  | .rdScry2Hi => true
  | .rdScrx3Lo => true
  | .rdScrx3Hi => true
  | .rdScry3Lo => true
  | .rdScry3Hi => true
  | .rdAffaLo => true
  | .rdAffaHi => true
  | .rdAffbLo => true
  | .rdAffbHi => true
  | .rdAffcLo => true
  | .rdAffcHi => true
  | .rdAffdLo => true
  | .rdAffdHi => true
  | .rdCtrxLo => true
  | .rdCtrxHi => true
  | .rdCtryLo => true
  | .rdCtryHi => true
  | .rdBgsize0Lo => true
  | .rdBgsize0Hi => true
  | .rdBgsize1Lo => true
  | .rdBgsize1Hi => true
  | .rdBgsize2Lo => true
  | .rdBgsize2Hi => true
  | .rdBgsize3Lo => true
  | .rdBgsize3Hi => true
  | .rdOvlctlLo => true
  | .rdOvlctlHi => true
  | .rdOvladdrLo => true
  | .rdOvladdrHi => true
  | .rdOvlblocksLo => true
  | .rdOvlblocksHi => true
  | .rdRirqlineLo => true
  | .rdRirqlineHi => true
  | .rdAdctlLo => true
  | .rdAdctlHi => true
  | .rdPlay0Lo => true
  | .rdPlay0Hi => true
  | .rdEnd0Lo => true
  | .rdEnd0Hi => true
  | .rdInter0Lo => true
  | .rdInter0Hi => true
  | .rdAdstatLo => true
  | .rdAdstatHi => true
  | .rdPlay1Lo => true
  | .rdPlay1Hi => true
  | .rdEnd1Lo => true
  | .rdEnd1Hi => true
  | .rdInter1Lo => true
  | .rdInter1Hi => true

end Sys2Proof
end

