-- ==== Sys2Proof/Decode.lean ====
section
/-! DEFINITION. From a decode key and a request's arguments to an instruction, and back (30_encoding.md R140 to R152).
The key's fields select the row; `Instr.row` is the row's match and mask as spec/opcode_table.json has them. -/

namespace Sys2Proof

/-- The arguments a request carries beside its key (30_encoding.md R140): the 16-bit value of the write access (R144),
the clock count of RUN, the timestamp of RESET, the channel of PLAYFETCH, the snapshot of RESTORE. -/
structure Args where
  v : Word
  n : Nat
  t : Nat
  c : Channel
  s : Snapshot
  deriving DecidableEq, Repr

/-- A snapshot of zeros and empty lists: the RESTORE argument whose every field is 0. -/
def Snapshot.zero : Snapshot :=
  { car := 0
    kar := 0
    pic := PicRegs.zero
    palette := Palette.zero
    timing :=
      { raster := 0, hphase := .active, hcnt := 0, odd := false, divrem := 0, hscnt := 0, now := 0 }
    rc := { pic := PicRegs.zero, line := 0 }
    scsi := Scsi.zero
    dma := Dma.zero
    play := Playback.zero
    ovl := Overlay.zero
    pend := Pending.zero
    mp := Micro.zero
    bg := BgRegs.zero
    kctl := KramCtl.zero
    kram := []
    line := { tbuf := [], tpos := 0, bgrows := { bg0 := [], bg1 := [], bg2 := [], bg3 := [] }, obuf := [] }
    out := { rows := [], width := 0, height := 0, interlace := false, frames := 0 } }

/-- The arguments whose every bit is 0. -/
def Args.zero : Args := { v := 0, n := 0, t := 0, c := .ch0, s := Snapshot.zero }

/-- Why a key is rejected. -/
inductive DecodeError where
  /-- CMD 7..15: no host request (30_encoding.md R142, R152) -/
  | reservedCommand (cmd : BitVec 4)
  deriving DecidableEq, Repr

/-- CMD, K[23:20] (30_encoding.md R141). -/
def keyCmd (k : Key) : BitVec 4 := k.extractLsb' 20 4

/-- SZ, K[19]. -/
def keySize (k : Key) : Size := if k.getLsbD 19 then .half else .byte

/-- SPACE, K[18:16]. -/
def keySpace (k : Key) : BitVec 3 := k.extractLsb' 16 3

/-- PORT, K[15]. -/
def keyPort (k : Key) : Bool := k.getLsbD 15

/-- HALF, K[14]. -/
def keyHalf (k : Key) : Bool := k.getLsbD 14

/-- LANE, K[13]. -/
def keyLane (k : Key) : Bool := k.getLsbD 13

/-- SEL, K[6:0]. -/
def keySel (k : Key) : BitVec 7 := k.extractLsb' 0 7

/-- The key with these fields; K[12:7] is 0 (30_encoding.md R141). -/
def mkKey (cmd : BitVec 4) (size : Size) (space : BitVec 3) (port half lane : Bool) (sel : BitVec 7) : Key :=
  cmd ++ (match size with | .half => 1#1 | .byte => 0#1) ++ space ++ BitVec.ofBool port ++ BitVec.ofBool half ++
    BitVec.ofBool lane ++ 0#6 ++ sel

/-- The low-half controller write rows by CAR (30_encoding.md R148). -/
def cWriteRow (sel : BitVec 7) (v : Word) : Instr :=
  match sel.toNat with
  | 0x00 => .wrPmode v
  | 0x01 => .wrPaladdr v
  | 0x02 => .wrPalwdata v
  | 0x03 => .wrPalrdata v
  | 0x04 => .wrPalofs0 v
  | 0x05 => .wrPalofs1 v
  | 0x06 => .wrPalofs2 v
  | 0x07 => .wrPalofs3 v
  | 0x08 => .wrPrio0 v
  | 0x09 => .wrPrio1 v
  | 0x0A => .wrKeyy v
  | 0x0B => .wrKeyu v
  | 0x0C => .wrKeyv v
  | 0x0D => .wrFixcol v
  | 0x0E => .wrCelctl v
  | 0x0F => .wrSprmask v
  | 0x10 => .wrCoef0 v
  | 0x11 => .wrCoef1 v
  | 0x12 => .wrCoef2 v
  | 0x13 => .wrCoef3 v
  | 0x14 => .wrCoef4 v
  | 0x15 => .wrCoef5 v
  | _ => .wrCUnknown sel v

/-- The low-half controller read rows by CAR (30_encoding.md R148). -/
def cReadRow (sel : BitVec 7) : Instr :=
  match sel.toNat with
  | 0x00 => .rdPmode
  | 0x01 => .rdPaladdr
  | 0x02 => .rdPalwdata
  | 0x03 => .rdPalrdata
  | 0x04 => .rdPalofs0
  | 0x05 => .rdPalofs1
  | 0x06 => .rdPalofs2
  | 0x07 => .rdPalofs3
  | 0x08 => .rdPrio0
  | 0x09 => .rdPrio1
  | 0x0A => .rdKeyy
  | 0x0B => .rdKeyu
  | 0x0C => .rdKeyv
  | 0x0D => .rdFixcol
  | 0x0E => .rdCelctl
  | 0x0F => .rdSprmask
  | 0x10 => .rdCoef0
  | 0x11 => .rdCoef1
  | 0x12 => .rdCoef2
  | 0x13 => .rdCoef3
  | 0x14 => .rdCoef4
  | 0x15 => .rdCoef5
  | _ => .rdCUnknown sel

/-- The low-half memory/DMA write rows by KAR (30_encoding.md R149, R150). -/
def kWriteLoRow (sel : BitVec 7) (v : Word) : Instr :=
  match sel.toNat with
  | 0x00 => .wrSdataLo v
  | 0x01 => .wrScmdLo v
  | 0x02 => .wrSmodeLo v
  | 0x03 => .wrSphaseLo v
  | 0x04 => .wrSbusLo v
  | 0x05 => .wrSstatLo v
  | 0x06 => .wrSinLo v
  | 0x07 => .wrSrstLo v
  | 0x08 => .wrSackLo v
  | 0x09 => .wrDmaaddrLo v
  | 0x0A => .wrDmasizeLo v
  | 0x0B => .wrDmactlLo v
  | 0x0C => .wrKramraLo v
  | 0x0D => .wrKramwaLo v
  | 0x0E => .wrKramdataLo v
  | 0x0F => .wrPageLo v
  | 0x10 => .wrMpaddrLo v
  | 0x11 => .wrMpdataLo v
  | 0x12 => .wrMpctlLo v
  | 0x13 => .wrBgendlessLo v
  | 0x15 => .wrBgmodeLo v
  | 0x20 => .wrBat0Lo v
  | 0x21 => .wrBat1Lo v
  | 0x22 => .wrBat2Lo v
  | 0x23 => .wrBat3Lo v
  | 0x24 => .wrCg0Lo v
  | 0x25 => .wrCg1Lo v
  | 0x26 => .wrCg2Lo v
  | 0x27 => .wrCg3Lo v
  | 0x28 => .wrSubbat0Lo v
  | 0x29 => .wrSubbat1Lo v
  | 0x2A => .wrSubbat2Lo v
  | 0x2B => .wrSubbat3Lo v
  | 0x2C => .wrSubcg0Lo v
  | 0x2D => .wrSubcg1Lo v
  | 0x2E => .wrSubcg2Lo v
  | 0x2F => .wrSubcg3Lo v
  | 0x30 => .wrScrx0Lo v
  | 0x31 => .wrScry0Lo v
  | 0x32 => .wrScrx1Lo v
  | 0x33 => .wrScry1Lo v
  | 0x34 => .wrScrx2Lo v
  | 0x35 => .wrScry2Lo v
  | 0x36 => .wrScrx3Lo v
  | 0x37 => .wrScry3Lo v
  | 0x38 => .wrAffaLo v
  | 0x39 => .wrAffbLo v
  | 0x3A => .wrAffcLo v
  | 0x3B => .wrAffdLo v
  | 0x3C => .wrCtrxLo v
  | 0x3D => .wrCtryLo v
  | 0x3E => .wrBgsize0Lo v
  | 0x3F => .wrBgsize1Lo v
  | 0x40 => .wrBgsize2Lo v
  | 0x41 => .wrBgsize3Lo v
  | 0x44 => .wrOvlctlLo v
  | 0x45 => .wrOvladdrLo v
  | 0x46 => .wrOvlblocksLo v
  | 0x47 => .wrRirqlineLo v
  | 0x50 => .wrAdctlLo v
  | 0x51 => .wrPlay0Lo v
  | 0x52 => .wrEnd0Lo v
  | 0x53 => .wrInter0Lo v
  | 0x54 => .wrAdstatLo v
  | 0x55 => .wrPlay1Lo v
  | 0x56 => .wrEnd1Lo v
  | 0x57 => .wrInter1Lo v
  | _ => .wrKUnknown false sel v

/-- The low-half memory/DMA read rows by KAR. -/
def kReadLoRow (sel : BitVec 7) : Instr :=
  match sel.toNat with
  | 0x00 => .rdSdataLo
  | 0x01 => .rdScmdLo
  | 0x02 => .rdSmodeLo
  | 0x03 => .rdSphaseLo
  | 0x04 => .rdSbusLo
  | 0x05 => .rdSstatLo
  | 0x06 => .rdSinLo
  | 0x07 => .rdSrstLo
  | 0x08 => .rdSackLo
  | 0x09 => .rdDmaaddrLo
  | 0x0A => .rdDmasizeLo
  | 0x0B => .rdDmactlLo
  | 0x0C => .rdKramraLo
  | 0x0D => .rdKramwaLo
  | 0x0E => .rdKramdataLo
  | 0x0F => .rdPageLo
  | 0x10 => .rdMpaddrLo
  | 0x11 => .rdMpdataLo
  | 0x12 => .rdMpctlLo
  | 0x13 => .rdBgendlessLo
  | 0x15 => .rdBgmodeLo
  | 0x20 => .rdBat0Lo
  | 0x21 => .rdBat1Lo
  | 0x22 => .rdBat2Lo
  | 0x23 => .rdBat3Lo
  | 0x24 => .rdCg0Lo
  | 0x25 => .rdCg1Lo
  | 0x26 => .rdCg2Lo
  | 0x27 => .rdCg3Lo
  | 0x28 => .rdSubbat0Lo
  | 0x29 => .rdSubbat1Lo
  | 0x2A => .rdSubbat2Lo
  | 0x2B => .rdSubbat3Lo
  | 0x2C => .rdSubcg0Lo
  | 0x2D => .rdSubcg1Lo
  | 0x2E => .rdSubcg2Lo
  | 0x2F => .rdSubcg3Lo
  | 0x30 => .rdScrx0Lo
  | 0x31 => .rdScry0Lo
  | 0x32 => .rdScrx1Lo
  | 0x33 => .rdScry1Lo
  | 0x34 => .rdScrx2Lo
  | 0x35 => .rdScry2Lo
  | 0x36 => .rdScrx3Lo
  | 0x37 => .rdScry3Lo
  | 0x38 => .rdAffaLo
  | 0x39 => .rdAffbLo
  | 0x3A => .rdAffcLo
  | 0x3B => .rdAffdLo
  | 0x3C => .rdCtrxLo
  | 0x3D => .rdCtryLo
  | 0x3E => .rdBgsize0Lo
  | 0x3F => .rdBgsize1Lo
  | 0x40 => .rdBgsize2Lo
  | 0x41 => .rdBgsize3Lo
  | 0x44 => .rdOvlctlLo
  | 0x45 => .rdOvladdrLo
  | 0x46 => .rdOvlblocksLo
  | 0x47 => .rdRirqlineLo
  | 0x50 => .rdAdctlLo
  | 0x51 => .rdPlay0Lo
  | 0x52 => .rdEnd0Lo
  | 0x53 => .rdInter0Lo
  | 0x54 => .rdAdstatLo
  | 0x55 => .rdPlay1Lo
  | 0x56 => .rdEnd1Lo
  | 0x57 => .rdInter1Lo
  | _ => .rdKUnknown false sel

/-- The high-half memory/DMA write rows by KAR. -/
def kWriteHiRow (sel : BitVec 7) (v : Word) : Instr :=
  match sel.toNat with
  | 0x00 => .wrSdataHi v
  | 0x01 => .wrScmdHi v
  | 0x02 => .wrSmodeHi v
  | 0x03 => .wrSphaseHi v
  | 0x04 => .wrSbusHi v
  | 0x05 => .wrSstatHi v
  | 0x06 => .wrSinHi v
  | 0x07 => .wrSrstHi v
  | 0x08 => .wrSackHi v
  | 0x09 => .wrDmaaddrHi v
  | 0x0A => .wrDmasizeHi v
  | 0x0B => .wrDmactlHi v
  | 0x0C => .wrKramraHi v
  | 0x0D => .wrKramwaHi v
  | 0x0E => .wrKramdataHi v
  | 0x0F => .wrPageHi v
  | 0x10 => .wrMpaddrHi v
  | 0x11 => .wrMpdataHi v
  | 0x12 => .wrMpctlHi v
  | 0x13 => .wrBgendlessHi v
  | 0x15 => .wrBgmodeHi v
  | 0x20 => .wrBat0Hi v
  | 0x21 => .wrBat1Hi v
  | 0x22 => .wrBat2Hi v
  | 0x23 => .wrBat3Hi v
  | 0x24 => .wrCg0Hi v
  | 0x25 => .wrCg1Hi v
  | 0x26 => .wrCg2Hi v
  | 0x27 => .wrCg3Hi v
  | 0x28 => .wrSubbat0Hi v
  | 0x29 => .wrSubbat1Hi v
  | 0x2A => .wrSubbat2Hi v
  | 0x2B => .wrSubbat3Hi v
  | 0x2C => .wrSubcg0Hi v
  | 0x2D => .wrSubcg1Hi v
  | 0x2E => .wrSubcg2Hi v
  | 0x2F => .wrSubcg3Hi v
  | 0x30 => .wrScrx0Hi v
  | 0x31 => .wrScry0Hi v
  | 0x32 => .wrScrx1Hi v
  | 0x33 => .wrScry1Hi v
  | 0x34 => .wrScrx2Hi v
  | 0x35 => .wrScry2Hi v
  | 0x36 => .wrScrx3Hi v
  | 0x37 => .wrScry3Hi v
  | 0x38 => .wrAffaHi v
  | 0x39 => .wrAffbHi v
  | 0x3A => .wrAffcHi v
  | 0x3B => .wrAffdHi v
  | 0x3C => .wrCtrxHi v
  | 0x3D => .wrCtryHi v
  | 0x3E => .wrBgsize0Hi v
  | 0x3F => .wrBgsize1Hi v
  | 0x40 => .wrBgsize2Hi v
  | 0x41 => .wrBgsize3Hi v
  | 0x44 => .wrOvlctlHi v
  | 0x45 => .wrOvladdrHi v
  | 0x46 => .wrOvlblocksHi v
  | 0x47 => .wrRirqlineHi v
  | 0x50 => .wrAdctlHi v
  | 0x51 => .wrPlay0Hi v
  | 0x52 => .wrEnd0Hi v
  | 0x53 => .wrInter0Hi v
  | 0x54 => .wrAdstatHi v
  | 0x55 => .wrPlay1Hi v
  | 0x56 => .wrEnd1Hi v
  | 0x57 => .wrInter1Hi v
  | _ => .wrKUnknown true sel v

/-- The high-half memory/DMA read rows by KAR. -/
def kReadHiRow (sel : BitVec 7) : Instr :=
  match sel.toNat with
  | 0x00 => .rdSdataHi
  | 0x01 => .rdScmdHi
  | 0x02 => .rdSmodeHi
  | 0x03 => .rdSphaseHi
  | 0x04 => .rdSbusHi
  | 0x05 => .rdSstatHi
  | 0x06 => .rdSinHi
  | 0x07 => .rdSrstHi
  | 0x08 => .rdSackHi
  | 0x09 => .rdDmaaddrHi
  | 0x0A => .rdDmasizeHi
  | 0x0B => .rdDmactlHi
  | 0x0C => .rdKramraHi
  | 0x0D => .rdKramwaHi
  | 0x0E => .rdKramdataHi
  | 0x0F => .rdPageHi
  | 0x10 => .rdMpaddrHi
  | 0x11 => .rdMpdataHi
  | 0x12 => .rdMpctlHi
  | 0x13 => .rdBgendlessHi
  | 0x15 => .rdBgmodeHi
  | 0x20 => .rdBat0Hi
  | 0x21 => .rdBat1Hi
  | 0x22 => .rdBat2Hi
  | 0x23 => .rdBat3Hi
  | 0x24 => .rdCg0Hi
  | 0x25 => .rdCg1Hi
  | 0x26 => .rdCg2Hi
  | 0x27 => .rdCg3Hi
  | 0x28 => .rdSubbat0Hi
  | 0x29 => .rdSubbat1Hi
  | 0x2A => .rdSubbat2Hi
  | 0x2B => .rdSubbat3Hi
  | 0x2C => .rdSubcg0Hi
  | 0x2D => .rdSubcg1Hi
  | 0x2E => .rdSubcg2Hi
  | 0x2F => .rdSubcg3Hi
  | 0x30 => .rdScrx0Hi
  | 0x31 => .rdScry0Hi
  | 0x32 => .rdScrx1Hi
  | 0x33 => .rdScry1Hi
  | 0x34 => .rdScrx2Hi
  | 0x35 => .rdScry2Hi
  | 0x36 => .rdScrx3Hi
  | 0x37 => .rdScry3Hi
  | 0x38 => .rdAffaHi
  | 0x39 => .rdAffbHi
  | 0x3A => .rdAffcHi
  | 0x3B => .rdAffdHi
  | 0x3C => .rdCtrxHi
  | 0x3D => .rdCtryHi
  | 0x3E => .rdBgsize0Hi
  | 0x3F => .rdBgsize1Hi
  | 0x40 => .rdBgsize2Hi
  | 0x41 => .rdBgsize3Hi
  | 0x44 => .rdOvlctlHi
  | 0x45 => .rdOvladdrHi
  | 0x46 => .rdOvlblocksHi
  | 0x47 => .rdRirqlineHi
  | 0x50 => .rdAdctlHi
  | 0x51 => .rdPlay0Hi
  | 0x52 => .rdEnd0Hi
  | 0x53 => .rdInter0Hi
  | 0x54 => .rdAdstatHi
  | 0x55 => .rdPlay1Hi
  | 0x56 => .rdEnd1Hi
  | 0x57 => .rdInter1Hi
  | _ => .rdKUnknown true sel

/-- The write row a key selects. -/
def decodeWrite (k : Key) (v : Word) : Instr :=
  if keySpace k = 0b011#3 then
    if keyPort k = false then .wrCar v
    else if keyHalf k then .wrCHigh v
    else cWriteRow (keySel k) v
  else if keySpace k = 0b110#3 then
    if keyPort k = false then .wrKar v
    else if keyHalf k then kWriteHiRow (keySel k) v
    else kWriteLoRow (keySel k) v
  else .wrNospace (keySpace k) v

/-- The read row a key selects. -/
def decodeRead (k : Key) : Instr :=
  if keySpace k = 0b011#3 then
    if keyPort k = false then .rdCstat
    else if keyHalf k then .rdCHigh
    else cReadRow (keySel k)
  else if keySpace k = 0b110#3 then
    if keyPort k = false then .rdKstat
    else if keyHalf k then kReadHiRow (keySel k)
    else kReadLoRow (keySel k)
  else .rdNospace (keySpace k)

/-- Decoding, total on every key: the row of the table that matches with the longest mask, or the rejection of a
reserved command (30_encoding.md R142, R152). No row looks at SZ or LANE (R143), nor at K[12:7], which are 0 in the key
of a request (R141; DEDUCED, safe; log 18). -/
def decode (k : Key) (a : Args) : Except DecodeError Instr :=
  match (keyCmd k).toNat with
  | 0 => .ok (decodeRead k)
  | 1 => .ok (decodeWrite k a.v)
  | 2 => .ok (.run a.n)
  | 3 => .ok (.reset a.t)
  | 4 => .ok .save
  | 5 => .ok (.restore a.s)
  | 6 => .ok (.playfetch a.c)
  | _ => .error (.reservedCommand (keyCmd k))

/-- The instruction an opcode-table word stands for, every argument 0: the word is the 24-bit key, the width of every
row. -/
def decodeTableWord (_nbits w : Nat) : Option Instr :=
  if w < 16777216 then
    match decode (BitVec.ofNat 24 w) Args.zero with
    | .ok i => some i
    | .error _ => none
  else none

/-! The encoder: the key of the 16-bit access (SZ = 1, LANE = 0) and the arguments. -/

/-- A write row and its value. -/
def encodeWrite (space : BitVec 3) (port half : Bool) (sel : BitVec 7) (v : Word) : Key × Args :=
  (mkKey 1 .half space port half false sel, { Args.zero with v := v })

/-- A read row. -/
def encodeRead (space : BitVec 3) (port half : Bool) (sel : BitVec 7) : Key × Args :=
  (mkKey 0 .half space port half false sel, Args.zero)

/-- The key of a host row: CMD and zeros. -/
def hostKey (cmd : BitVec 4) : Key := mkKey cmd .byte 0 false false false 0

/-- The key and arguments of an instruction, from the rows of spec/opcode_table.json. -/
def encode : Instr → Key × Args
  | .wrCar v => encodeWrite 0b011 false false 0x00 v
  | .wrPmode v => encodeWrite 0b011 true false 0x00 v
  | .wrPaladdr v => encodeWrite 0b011 true false 0x01 v
  | .wrPalwdata v => encodeWrite 0b011 true false 0x02 v
  | .wrPalrdata v => encodeWrite 0b011 true false 0x03 v
  | .wrPalofs0 v => encodeWrite 0b011 true false 0x04 v
  | .wrPalofs1 v => encodeWrite 0b011 true false 0x05 v
  | .wrPalofs2 v => encodeWrite 0b011 true false 0x06 v
  | .wrPalofs3 v => encodeWrite 0b011 true false 0x07 v
  | .wrPrio0 v => encodeWrite 0b011 true false 0x08 v
  | .wrPrio1 v => encodeWrite 0b011 true false 0x09 v
  | .wrKeyy v => encodeWrite 0b011 true false 0x0A v
  | .wrKeyu v => encodeWrite 0b011 true false 0x0B v
  | .wrKeyv v => encodeWrite 0b011 true false 0x0C v
  | .wrFixcol v => encodeWrite 0b011 true false 0x0D v
  | .wrCelctl v => encodeWrite 0b011 true false 0x0E v
  | .wrSprmask v => encodeWrite 0b011 true false 0x0F v
  | .wrCoef0 v => encodeWrite 0b011 true false 0x10 v
  | .wrCoef1 v => encodeWrite 0b011 true false 0x11 v
  | .wrCoef2 v => encodeWrite 0b011 true false 0x12 v
  | .wrCoef3 v => encodeWrite 0b011 true false 0x13 v
  | .wrCoef4 v => encodeWrite 0b011 true false 0x14 v
  | .wrCoef5 v => encodeWrite 0b011 true false 0x15 v
  | .wrCHigh v => encodeWrite 0b011 true true 0x00 v
  | .wrCUnknown sel v => encodeWrite 0b011 true false sel v
  | .rdCUnknown sel => encodeRead 0b011 true false sel
  | .wrKar v => encodeWrite 0b110 false false 0x00 v
  | .wrSdataLo v => encodeWrite 0b110 true false 0x00 v
  | .wrSdataHi v => encodeWrite 0b110 true true 0x00 v
  | .wrScmdLo v => encodeWrite 0b110 true false 0x01 v
  | .wrScmdHi v => encodeWrite 0b110 true true 0x01 v
  | .wrSmodeLo v => encodeWrite 0b110 true false 0x02 v
  | .wrSmodeHi v => encodeWrite 0b110 true true 0x02 v
  | .wrSphaseLo v => encodeWrite 0b110 true false 0x03 v
  | .wrSphaseHi v => encodeWrite 0b110 true true 0x03 v
  | .wrSbusLo v => encodeWrite 0b110 true false 0x04 v
  | .wrSbusHi v => encodeWrite 0b110 true true 0x04 v
  | .wrSstatLo v => encodeWrite 0b110 true false 0x05 v
  | .wrSstatHi v => encodeWrite 0b110 true true 0x05 v
  | .wrSinLo v => encodeWrite 0b110 true false 0x06 v
  | .wrSinHi v => encodeWrite 0b110 true true 0x06 v
  | .wrSrstLo v => encodeWrite 0b110 true false 0x07 v
  | .wrSrstHi v => encodeWrite 0b110 true true 0x07 v
  | .wrSackLo v => encodeWrite 0b110 true false 0x08 v
  | .wrSackHi v => encodeWrite 0b110 true true 0x08 v
  | .wrDmaaddrLo v => encodeWrite 0b110 true false 0x09 v
  | .wrDmaaddrHi v => encodeWrite 0b110 true true 0x09 v
  | .wrDmasizeLo v => encodeWrite 0b110 true false 0x0A v
  | .wrDmasizeHi v => encodeWrite 0b110 true true 0x0A v
  | .wrDmactlLo v => encodeWrite 0b110 true false 0x0B v
  | .wrDmactlHi v => encodeWrite 0b110 true true 0x0B v
  | .wrKramraLo v => encodeWrite 0b110 true false 0x0C v
  | .wrKramraHi v => encodeWrite 0b110 true true 0x0C v
  | .wrKramwaLo v => encodeWrite 0b110 true false 0x0D v
  | .wrKramwaHi v => encodeWrite 0b110 true true 0x0D v
  | .wrKramdataLo v => encodeWrite 0b110 true false 0x0E v
  | .wrKramdataHi v => encodeWrite 0b110 true true 0x0E v
  | .wrPageLo v => encodeWrite 0b110 true false 0x0F v
  | .wrPageHi v => encodeWrite 0b110 true true 0x0F v
  | .wrMpaddrLo v => encodeWrite 0b110 true false 0x10 v
  | .wrMpaddrHi v => encodeWrite 0b110 true true 0x10 v
  | .wrMpdataLo v => encodeWrite 0b110 true false 0x11 v
  | .wrMpdataHi v => encodeWrite 0b110 true true 0x11 v
  | .wrMpctlLo v => encodeWrite 0b110 true false 0x12 v
  | .wrMpctlHi v => encodeWrite 0b110 true true 0x12 v
  | .wrBgendlessLo v => encodeWrite 0b110 true false 0x13 v
  | .wrBgendlessHi v => encodeWrite 0b110 true true 0x13 v
  | .wrBgmodeLo v => encodeWrite 0b110 true false 0x15 v
  | .wrBgmodeHi v => encodeWrite 0b110 true true 0x15 v
  | .wrBat0Lo v => encodeWrite 0b110 true false 0x20 v
  | .wrBat0Hi v => encodeWrite 0b110 true true 0x20 v
  | .wrBat1Lo v => encodeWrite 0b110 true false 0x21 v
  | .wrBat1Hi v => encodeWrite 0b110 true true 0x21 v
  | .wrBat2Lo v => encodeWrite 0b110 true false 0x22 v
  | .wrBat2Hi v => encodeWrite 0b110 true true 0x22 v
  | .wrBat3Lo v => encodeWrite 0b110 true false 0x23 v
  | .wrBat3Hi v => encodeWrite 0b110 true true 0x23 v
  | .wrCg0Lo v => encodeWrite 0b110 true false 0x24 v
  | .wrCg0Hi v => encodeWrite 0b110 true true 0x24 v
  | .wrCg1Lo v => encodeWrite 0b110 true false 0x25 v
  | .wrCg1Hi v => encodeWrite 0b110 true true 0x25 v
  | .wrCg2Lo v => encodeWrite 0b110 true false 0x26 v
  | .wrCg2Hi v => encodeWrite 0b110 true true 0x26 v
  | .wrCg3Lo v => encodeWrite 0b110 true false 0x27 v
  | .wrCg3Hi v => encodeWrite 0b110 true true 0x27 v
  | .wrSubbat0Lo v => encodeWrite 0b110 true false 0x28 v
  | .wrSubbat0Hi v => encodeWrite 0b110 true true 0x28 v
  | .wrSubbat1Lo v => encodeWrite 0b110 true false 0x29 v
  | .wrSubbat1Hi v => encodeWrite 0b110 true true 0x29 v
  | .wrSubbat2Lo v => encodeWrite 0b110 true false 0x2A v
  | .wrSubbat2Hi v => encodeWrite 0b110 true true 0x2A v
  | .wrSubbat3Lo v => encodeWrite 0b110 true false 0x2B v
  | .wrSubbat3Hi v => encodeWrite 0b110 true true 0x2B v
  | .wrSubcg0Lo v => encodeWrite 0b110 true false 0x2C v
  | .wrSubcg0Hi v => encodeWrite 0b110 true true 0x2C v
  | .wrSubcg1Lo v => encodeWrite 0b110 true false 0x2D v
  | .wrSubcg1Hi v => encodeWrite 0b110 true true 0x2D v
  | .wrSubcg2Lo v => encodeWrite 0b110 true false 0x2E v
  | .wrSubcg2Hi v => encodeWrite 0b110 true true 0x2E v
  | .wrSubcg3Lo v => encodeWrite 0b110 true false 0x2F v
  | .wrSubcg3Hi v => encodeWrite 0b110 true true 0x2F v
  | .wrScrx0Lo v => encodeWrite 0b110 true false 0x30 v
  | .wrScrx0Hi v => encodeWrite 0b110 true true 0x30 v
  | .wrScry0Lo v => encodeWrite 0b110 true false 0x31 v
  | .wrScry0Hi v => encodeWrite 0b110 true true 0x31 v
  | .wrScrx1Lo v => encodeWrite 0b110 true false 0x32 v
  | .wrScrx1Hi v => encodeWrite 0b110 true true 0x32 v
  | .wrScry1Lo v => encodeWrite 0b110 true false 0x33 v
  | .wrScry1Hi v => encodeWrite 0b110 true true 0x33 v
  | .wrScrx2Lo v => encodeWrite 0b110 true false 0x34 v
  | .wrScrx2Hi v => encodeWrite 0b110 true true 0x34 v
  | .wrScry2Lo v => encodeWrite 0b110 true false 0x35 v
  | .wrScry2Hi v => encodeWrite 0b110 true true 0x35 v
  | .wrScrx3Lo v => encodeWrite 0b110 true false 0x36 v
  | .wrScrx3Hi v => encodeWrite 0b110 true true 0x36 v
  | .wrScry3Lo v => encodeWrite 0b110 true false 0x37 v
  | .wrScry3Hi v => encodeWrite 0b110 true true 0x37 v
  | .wrAffaLo v => encodeWrite 0b110 true false 0x38 v
  | .wrAffaHi v => encodeWrite 0b110 true true 0x38 v
  | .wrAffbLo v => encodeWrite 0b110 true false 0x39 v
  | .wrAffbHi v => encodeWrite 0b110 true true 0x39 v
  | .wrAffcLo v => encodeWrite 0b110 true false 0x3A v
  | .wrAffcHi v => encodeWrite 0b110 true true 0x3A v
  | .wrAffdLo v => encodeWrite 0b110 true false 0x3B v
  | .wrAffdHi v => encodeWrite 0b110 true true 0x3B v
  | .wrCtrxLo v => encodeWrite 0b110 true false 0x3C v
  | .wrCtrxHi v => encodeWrite 0b110 true true 0x3C v
  | .wrCtryLo v => encodeWrite 0b110 true false 0x3D v
  | .wrCtryHi v => encodeWrite 0b110 true true 0x3D v
  | .wrBgsize0Lo v => encodeWrite 0b110 true false 0x3E v
  | .wrBgsize0Hi v => encodeWrite 0b110 true true 0x3E v
  | .wrBgsize1Lo v => encodeWrite 0b110 true false 0x3F v
  | .wrBgsize1Hi v => encodeWrite 0b110 true true 0x3F v
  | .wrBgsize2Lo v => encodeWrite 0b110 true false 0x40 v
  | .wrBgsize2Hi v => encodeWrite 0b110 true true 0x40 v
  | .wrBgsize3Lo v => encodeWrite 0b110 true false 0x41 v
  | .wrBgsize3Hi v => encodeWrite 0b110 true true 0x41 v
  | .wrOvlctlLo v => encodeWrite 0b110 true false 0x44 v
  | .wrOvlctlHi v => encodeWrite 0b110 true true 0x44 v
  | .wrOvladdrLo v => encodeWrite 0b110 true false 0x45 v
  | .wrOvladdrHi v => encodeWrite 0b110 true true 0x45 v
  | .wrOvlblocksLo v => encodeWrite 0b110 true false 0x46 v
  | .wrOvlblocksHi v => encodeWrite 0b110 true true 0x46 v
  | .wrRirqlineLo v => encodeWrite 0b110 true false 0x47 v
  | .wrRirqlineHi v => encodeWrite 0b110 true true 0x47 v
  | .wrAdctlLo v => encodeWrite 0b110 true false 0x50 v
  | .wrAdctlHi v => encodeWrite 0b110 true true 0x50 v
  | .wrPlay0Lo v => encodeWrite 0b110 true false 0x51 v
  | .wrPlay0Hi v => encodeWrite 0b110 true true 0x51 v
  | .wrEnd0Lo v => encodeWrite 0b110 true false 0x52 v
  | .wrEnd0Hi v => encodeWrite 0b110 true true 0x52 v
  | .wrInter0Lo v => encodeWrite 0b110 true false 0x53 v
  | .wrInter0Hi v => encodeWrite 0b110 true true 0x53 v
  | .wrAdstatLo v => encodeWrite 0b110 true false 0x54 v
  | .wrAdstatHi v => encodeWrite 0b110 true true 0x54 v
  | .wrPlay1Lo v => encodeWrite 0b110 true false 0x55 v
  | .wrPlay1Hi v => encodeWrite 0b110 true true 0x55 v
  | .wrEnd1Lo v => encodeWrite 0b110 true false 0x56 v
  | .wrEnd1Hi v => encodeWrite 0b110 true true 0x56 v
  | .wrInter1Lo v => encodeWrite 0b110 true false 0x57 v
  | .wrInter1Hi v => encodeWrite 0b110 true true 0x57 v
  | .wrKUnknown high sel v => encodeWrite 0b110 true high sel v
  | .rdKUnknown high sel => encodeRead 0b110 true high sel
  | .wrNospace space v => encodeWrite space false false 0 v
  | .rdNospace space => encodeRead space false false 0
  | .run n => (hostKey 2, { Args.zero with n := n })
  | .reset t => (hostKey 3, { Args.zero with t := t })
  | .save => (hostKey 4, Args.zero)
  | .restore s => (hostKey 5, { Args.zero with s := s })
  | .playfetch c => (hostKey 6, { Args.zero with c := c })
  | .rdCstat => encodeRead 0b011 false false 0x00
  | .rdPmode => encodeRead 0b011 true false 0x00
  | .rdPaladdr => encodeRead 0b011 true false 0x01
  | .rdPalwdata => encodeRead 0b011 true false 0x02
  | .rdPalrdata => encodeRead 0b011 true false 0x03
  | .rdPalofs0 => encodeRead 0b011 true false 0x04
  | .rdPalofs1 => encodeRead 0b011 true false 0x05
  | .rdPalofs2 => encodeRead 0b011 true false 0x06
  | .rdPalofs3 => encodeRead 0b011 true false 0x07
  | .rdPrio0 => encodeRead 0b011 true false 0x08
  | .rdPrio1 => encodeRead 0b011 true false 0x09
  | .rdKeyy => encodeRead 0b011 true false 0x0A
  | .rdKeyu => encodeRead 0b011 true false 0x0B
  | .rdKeyv => encodeRead 0b011 true false 0x0C
  | .rdFixcol => encodeRead 0b011 true false 0x0D
  | .rdCelctl => encodeRead 0b011 true false 0x0E
  | .rdSprmask => encodeRead 0b011 true false 0x0F
  | .rdCoef0 => encodeRead 0b011 true false 0x10
  | .rdCoef1 => encodeRead 0b011 true false 0x11
  | .rdCoef2 => encodeRead 0b011 true false 0x12
  | .rdCoef3 => encodeRead 0b011 true false 0x13
  | .rdCoef4 => encodeRead 0b011 true false 0x14
  | .rdCoef5 => encodeRead 0b011 true false 0x15
  | .rdCHigh => encodeRead 0b011 true true 0x00
  | .rdKstat => encodeRead 0b110 false false 0x00
  | .rdSdataLo => encodeRead 0b110 true false 0x00
  | .rdSdataHi => encodeRead 0b110 true true 0x00
  | .rdScmdLo => encodeRead 0b110 true false 0x01
  | .rdScmdHi => encodeRead 0b110 true true 0x01
  | .rdSmodeLo => encodeRead 0b110 true false 0x02
  | .rdSmodeHi => encodeRead 0b110 true true 0x02
  | .rdSphaseLo => encodeRead 0b110 true false 0x03
  | .rdSphaseHi => encodeRead 0b110 true true 0x03
  | .rdSbusLo => encodeRead 0b110 true false 0x04
  | .rdSbusHi => encodeRead 0b110 true true 0x04
  | .rdSstatLo => encodeRead 0b110 true false 0x05
  | .rdSstatHi => encodeRead 0b110 true true 0x05
  | .rdSinLo => encodeRead 0b110 true false 0x06
  | .rdSinHi => encodeRead 0b110 true true 0x06
  | .rdSrstLo => encodeRead 0b110 true false 0x07
  | .rdSrstHi => encodeRead 0b110 true true 0x07
  | .rdSackLo => encodeRead 0b110 true false 0x08
  | .rdSackHi => encodeRead 0b110 true true 0x08
  | .rdDmaaddrLo => encodeRead 0b110 true false 0x09
  | .rdDmaaddrHi => encodeRead 0b110 true true 0x09
  | .rdDmasizeLo => encodeRead 0b110 true false 0x0A
  | .rdDmasizeHi => encodeRead 0b110 true true 0x0A
  | .rdDmactlLo => encodeRead 0b110 true false 0x0B
  | .rdDmactlHi => encodeRead 0b110 true true 0x0B
  | .rdKramraLo => encodeRead 0b110 true false 0x0C
  | .rdKramraHi => encodeRead 0b110 true true 0x0C
  | .rdKramwaLo => encodeRead 0b110 true false 0x0D
  | .rdKramwaHi => encodeRead 0b110 true true 0x0D
  | .rdKramdataLo => encodeRead 0b110 true false 0x0E
  | .rdKramdataHi => encodeRead 0b110 true true 0x0E
  | .rdPageLo => encodeRead 0b110 true false 0x0F
  | .rdPageHi => encodeRead 0b110 true true 0x0F
  | .rdMpaddrLo => encodeRead 0b110 true false 0x10
  | .rdMpaddrHi => encodeRead 0b110 true true 0x10
  | .rdMpdataLo => encodeRead 0b110 true false 0x11
  | .rdMpdataHi => encodeRead 0b110 true true 0x11
  | .rdMpctlLo => encodeRead 0b110 true false 0x12
  | .rdMpctlHi => encodeRead 0b110 true true 0x12
  | .rdBgendlessLo => encodeRead 0b110 true false 0x13
  | .rdBgendlessHi => encodeRead 0b110 true true 0x13
  | .rdBgmodeLo => encodeRead 0b110 true false 0x15
  | .rdBgmodeHi => encodeRead 0b110 true true 0x15
  | .rdBat0Lo => encodeRead 0b110 true false 0x20
  | .rdBat0Hi => encodeRead 0b110 true true 0x20
  | .rdBat1Lo => encodeRead 0b110 true false 0x21
  | .rdBat1Hi => encodeRead 0b110 true true 0x21
  | .rdBat2Lo => encodeRead 0b110 true false 0x22
  | .rdBat2Hi => encodeRead 0b110 true true 0x22
  | .rdBat3Lo => encodeRead 0b110 true false 0x23
  | .rdBat3Hi => encodeRead 0b110 true true 0x23
  | .rdCg0Lo => encodeRead 0b110 true false 0x24
  | .rdCg0Hi => encodeRead 0b110 true true 0x24
  | .rdCg1Lo => encodeRead 0b110 true false 0x25
  | .rdCg1Hi => encodeRead 0b110 true true 0x25
  | .rdCg2Lo => encodeRead 0b110 true false 0x26
  | .rdCg2Hi => encodeRead 0b110 true true 0x26
  | .rdCg3Lo => encodeRead 0b110 true false 0x27
  | .rdCg3Hi => encodeRead 0b110 true true 0x27
  | .rdSubbat0Lo => encodeRead 0b110 true false 0x28
  | .rdSubbat0Hi => encodeRead 0b110 true true 0x28
  | .rdSubbat1Lo => encodeRead 0b110 true false 0x29
  | .rdSubbat1Hi => encodeRead 0b110 true true 0x29
  | .rdSubbat2Lo => encodeRead 0b110 true false 0x2A
  | .rdSubbat2Hi => encodeRead 0b110 true true 0x2A
  | .rdSubbat3Lo => encodeRead 0b110 true false 0x2B
  | .rdSubbat3Hi => encodeRead 0b110 true true 0x2B
  | .rdSubcg0Lo => encodeRead 0b110 true false 0x2C
  | .rdSubcg0Hi => encodeRead 0b110 true true 0x2C
  | .rdSubcg1Lo => encodeRead 0b110 true false 0x2D
  | .rdSubcg1Hi => encodeRead 0b110 true true 0x2D
  | .rdSubcg2Lo => encodeRead 0b110 true false 0x2E
  | .rdSubcg2Hi => encodeRead 0b110 true true 0x2E
  | .rdSubcg3Lo => encodeRead 0b110 true false 0x2F
  | .rdSubcg3Hi => encodeRead 0b110 true true 0x2F
  | .rdScrx0Lo => encodeRead 0b110 true false 0x30
  | .rdScrx0Hi => encodeRead 0b110 true true 0x30
  | .rdScry0Lo => encodeRead 0b110 true false 0x31
  | .rdScry0Hi => encodeRead 0b110 true true 0x31
  | .rdScrx1Lo => encodeRead 0b110 true false 0x32
  | .rdScrx1Hi => encodeRead 0b110 true true 0x32
  | .rdScry1Lo => encodeRead 0b110 true false 0x33
  | .rdScry1Hi => encodeRead 0b110 true true 0x33
  | .rdScrx2Lo => encodeRead 0b110 true false 0x34
  | .rdScrx2Hi => encodeRead 0b110 true true 0x34
  | .rdScry2Lo => encodeRead 0b110 true false 0x35
  | .rdScry2Hi => encodeRead 0b110 true true 0x35
  | .rdScrx3Lo => encodeRead 0b110 true false 0x36
  | .rdScrx3Hi => encodeRead 0b110 true true 0x36
  | .rdScry3Lo => encodeRead 0b110 true false 0x37
  | .rdScry3Hi => encodeRead 0b110 true true 0x37
  | .rdAffaLo => encodeRead 0b110 true false 0x38
  | .rdAffaHi => encodeRead 0b110 true true 0x38
  | .rdAffbLo => encodeRead 0b110 true false 0x39
  | .rdAffbHi => encodeRead 0b110 true true 0x39
  | .rdAffcLo => encodeRead 0b110 true false 0x3A
  | .rdAffcHi => encodeRead 0b110 true true 0x3A
  | .rdAffdLo => encodeRead 0b110 true false 0x3B
  | .rdAffdHi => encodeRead 0b110 true true 0x3B
  | .rdCtrxLo => encodeRead 0b110 true false 0x3C
  | .rdCtrxHi => encodeRead 0b110 true true 0x3C
  | .rdCtryLo => encodeRead 0b110 true false 0x3D
  | .rdCtryHi => encodeRead 0b110 true true 0x3D
  | .rdBgsize0Lo => encodeRead 0b110 true false 0x3E
  | .rdBgsize0Hi => encodeRead 0b110 true true 0x3E
  | .rdBgsize1Lo => encodeRead 0b110 true false 0x3F
  | .rdBgsize1Hi => encodeRead 0b110 true true 0x3F
  | .rdBgsize2Lo => encodeRead 0b110 true false 0x40
  | .rdBgsize2Hi => encodeRead 0b110 true true 0x40
  | .rdBgsize3Lo => encodeRead 0b110 true false 0x41
  | .rdBgsize3Hi => encodeRead 0b110 true true 0x41
  | .rdOvlctlLo => encodeRead 0b110 true false 0x44
  | .rdOvlctlHi => encodeRead 0b110 true true 0x44
  | .rdOvladdrLo => encodeRead 0b110 true false 0x45
  | .rdOvladdrHi => encodeRead 0b110 true true 0x45
  | .rdOvlblocksLo => encodeRead 0b110 true false 0x46
  | .rdOvlblocksHi => encodeRead 0b110 true true 0x46
  | .rdRirqlineLo => encodeRead 0b110 true false 0x47
  | .rdRirqlineHi => encodeRead 0b110 true true 0x47
  | .rdAdctlLo => encodeRead 0b110 true false 0x50
  | .rdAdctlHi => encodeRead 0b110 true true 0x50
  | .rdPlay0Lo => encodeRead 0b110 true false 0x51
  | .rdPlay0Hi => encodeRead 0b110 true true 0x51
  | .rdEnd0Lo => encodeRead 0b110 true false 0x52
  | .rdEnd0Hi => encodeRead 0b110 true true 0x52
  | .rdInter0Lo => encodeRead 0b110 true false 0x53
  | .rdInter0Hi => encodeRead 0b110 true true 0x53
  | .rdAdstatLo => encodeRead 0b110 true false 0x54
  | .rdAdstatHi => encodeRead 0b110 true true 0x54
  | .rdPlay1Lo => encodeRead 0b110 true false 0x55
  | .rdPlay1Hi => encodeRead 0b110 true true 0x55
  | .rdEnd1Lo => encodeRead 0b110 true false 0x56
  | .rdEnd1Hi => encodeRead 0b110 true true 0x56
  | .rdInter1Lo => encodeRead 0b110 true false 0x57
  | .rdInter1Hi => encodeRead 0b110 true true 0x57

/-- A row of spec/opcode_table.json: the bits of K it fixes and their values. -/
structure Row where
  matchBits : Key
  mask : Key
  deriving DecidableEq, Repr

/-- The key fits the row (30_encoding.md R142). -/
def Row.fits (r : Row) (k : Key) : Bool := k &&& r.mask == r.matchBits

/-- How many bits the row looks at (30_encoding.md R142). -/
def Row.weight (r : Row) : Nat := (List.range 24).countP r.mask.getLsbD

/-- The instruction's row, as spec/opcode_table.json has it. -/
def Instr.row : Instr → Row
  | .wrCar _ => ⟨0x130000, 0xF78000⟩
  | .wrPmode _ => ⟨0x138000, 0xF7C07F⟩
  | .wrPaladdr _ => ⟨0x138001, 0xF7C07F⟩
  | .wrPalwdata _ => ⟨0x138002, 0xF7C07F⟩
  | .wrPalrdata _ => ⟨0x138003, 0xF7C07F⟩
  | .wrPalofs0 _ => ⟨0x138004, 0xF7C07F⟩
  | .wrPalofs1 _ => ⟨0x138005, 0xF7C07F⟩
  | .wrPalofs2 _ => ⟨0x138006, 0xF7C07F⟩
  | .wrPalofs3 _ => ⟨0x138007, 0xF7C07F⟩
  | .wrPrio0 _ => ⟨0x138008, 0xF7C07F⟩
  | .wrPrio1 _ => ⟨0x138009, 0xF7C07F⟩
  | .wrKeyy _ => ⟨0x13800A, 0xF7C07F⟩
  | .wrKeyu _ => ⟨0x13800B, 0xF7C07F⟩
  | .wrKeyv _ => ⟨0x13800C, 0xF7C07F⟩
  | .wrFixcol _ => ⟨0x13800D, 0xF7C07F⟩
  | .wrCelctl _ => ⟨0x13800E, 0xF7C07F⟩
  | .wrSprmask _ => ⟨0x13800F, 0xF7C07F⟩
  | .wrCoef0 _ => ⟨0x138010, 0xF7C07F⟩
  | .wrCoef1 _ => ⟨0x138011, 0xF7C07F⟩
  | .wrCoef2 _ => ⟨0x138012, 0xF7C07F⟩
  | .wrCoef3 _ => ⟨0x138013, 0xF7C07F⟩
  | .wrCoef4 _ => ⟨0x138014, 0xF7C07F⟩
  | .wrCoef5 _ => ⟨0x138015, 0xF7C07F⟩
  | .wrCHigh _ => ⟨0x13C000, 0xF7C000⟩
  | .wrCUnknown _ _ => ⟨0x130000, 0xF70000⟩
  | .rdCUnknown _ => ⟨0x030000, 0xF70000⟩
  | .wrKar _ => ⟨0x160000, 0xF78000⟩
  | .wrSdataLo _ => ⟨0x168000, 0xF7C07F⟩
  | .wrSdataHi _ => ⟨0x16C000, 0xF7C07F⟩
  | .wrScmdLo _ => ⟨0x168001, 0xF7C07F⟩
  | .wrScmdHi _ => ⟨0x16C001, 0xF7C07F⟩
  | .wrSmodeLo _ => ⟨0x168002, 0xF7C07F⟩
  | .wrSmodeHi _ => ⟨0x16C002, 0xF7C07F⟩
  | .wrSphaseLo _ => ⟨0x168003, 0xF7C07F⟩
  | .wrSphaseHi _ => ⟨0x16C003, 0xF7C07F⟩
  | .wrSbusLo _ => ⟨0x168004, 0xF7C07F⟩
  | .wrSbusHi _ => ⟨0x16C004, 0xF7C07F⟩
  | .wrSstatLo _ => ⟨0x168005, 0xF7C07F⟩
  | .wrSstatHi _ => ⟨0x16C005, 0xF7C07F⟩
  | .wrSinLo _ => ⟨0x168006, 0xF7C07F⟩
  | .wrSinHi _ => ⟨0x16C006, 0xF7C07F⟩
  | .wrSrstLo _ => ⟨0x168007, 0xF7C07F⟩
  | .wrSrstHi _ => ⟨0x16C007, 0xF7C07F⟩
  | .wrSackLo _ => ⟨0x168008, 0xF7C07F⟩
  | .wrSackHi _ => ⟨0x16C008, 0xF7C07F⟩
  | .wrDmaaddrLo _ => ⟨0x168009, 0xF7C07F⟩
  | .wrDmaaddrHi _ => ⟨0x16C009, 0xF7C07F⟩
  | .wrDmasizeLo _ => ⟨0x16800A, 0xF7C07F⟩
  | .wrDmasizeHi _ => ⟨0x16C00A, 0xF7C07F⟩
  | .wrDmactlLo _ => ⟨0x16800B, 0xF7C07F⟩
  | .wrDmactlHi _ => ⟨0x16C00B, 0xF7C07F⟩
  | .wrKramraLo _ => ⟨0x16800C, 0xF7C07F⟩
  | .wrKramraHi _ => ⟨0x16C00C, 0xF7C07F⟩
  | .wrKramwaLo _ => ⟨0x16800D, 0xF7C07F⟩
  | .wrKramwaHi _ => ⟨0x16C00D, 0xF7C07F⟩
  | .wrKramdataLo _ => ⟨0x16800E, 0xF7C07F⟩
  | .wrKramdataHi _ => ⟨0x16C00E, 0xF7C07F⟩
  | .wrPageLo _ => ⟨0x16800F, 0xF7C07F⟩
  | .wrPageHi _ => ⟨0x16C00F, 0xF7C07F⟩
  | .wrMpaddrLo _ => ⟨0x168010, 0xF7C07F⟩
  | .wrMpaddrHi _ => ⟨0x16C010, 0xF7C07F⟩
  | .wrMpdataLo _ => ⟨0x168011, 0xF7C07F⟩
  | .wrMpdataHi _ => ⟨0x16C011, 0xF7C07F⟩
  | .wrMpctlLo _ => ⟨0x168012, 0xF7C07F⟩
  | .wrMpctlHi _ => ⟨0x16C012, 0xF7C07F⟩
  | .wrBgendlessLo _ => ⟨0x168013, 0xF7C07F⟩
  | .wrBgendlessHi _ => ⟨0x16C013, 0xF7C07F⟩
  | .wrBgmodeLo _ => ⟨0x168015, 0xF7C07F⟩
  | .wrBgmodeHi _ => ⟨0x16C015, 0xF7C07F⟩
  | .wrBat0Lo _ => ⟨0x168020, 0xF7C07F⟩
  | .wrBat0Hi _ => ⟨0x16C020, 0xF7C07F⟩
  | .wrBat1Lo _ => ⟨0x168021, 0xF7C07F⟩
  | .wrBat1Hi _ => ⟨0x16C021, 0xF7C07F⟩
  | .wrBat2Lo _ => ⟨0x168022, 0xF7C07F⟩
  | .wrBat2Hi _ => ⟨0x16C022, 0xF7C07F⟩
  | .wrBat3Lo _ => ⟨0x168023, 0xF7C07F⟩
  | .wrBat3Hi _ => ⟨0x16C023, 0xF7C07F⟩
  | .wrCg0Lo _ => ⟨0x168024, 0xF7C07F⟩
  | .wrCg0Hi _ => ⟨0x16C024, 0xF7C07F⟩
  | .wrCg1Lo _ => ⟨0x168025, 0xF7C07F⟩
  | .wrCg1Hi _ => ⟨0x16C025, 0xF7C07F⟩
  | .wrCg2Lo _ => ⟨0x168026, 0xF7C07F⟩
  | .wrCg2Hi _ => ⟨0x16C026, 0xF7C07F⟩
  | .wrCg3Lo _ => ⟨0x168027, 0xF7C07F⟩
  | .wrCg3Hi _ => ⟨0x16C027, 0xF7C07F⟩
  | .wrSubbat0Lo _ => ⟨0x168028, 0xF7C07F⟩
  | .wrSubbat0Hi _ => ⟨0x16C028, 0xF7C07F⟩
  | .wrSubbat1Lo _ => ⟨0x168029, 0xF7C07F⟩
  | .wrSubbat1Hi _ => ⟨0x16C029, 0xF7C07F⟩
  | .wrSubbat2Lo _ => ⟨0x16802A, 0xF7C07F⟩
  | .wrSubbat2Hi _ => ⟨0x16C02A, 0xF7C07F⟩
  | .wrSubbat3Lo _ => ⟨0x16802B, 0xF7C07F⟩
  | .wrSubbat3Hi _ => ⟨0x16C02B, 0xF7C07F⟩
  | .wrSubcg0Lo _ => ⟨0x16802C, 0xF7C07F⟩
  | .wrSubcg0Hi _ => ⟨0x16C02C, 0xF7C07F⟩
  | .wrSubcg1Lo _ => ⟨0x16802D, 0xF7C07F⟩
  | .wrSubcg1Hi _ => ⟨0x16C02D, 0xF7C07F⟩
  | .wrSubcg2Lo _ => ⟨0x16802E, 0xF7C07F⟩
  | .wrSubcg2Hi _ => ⟨0x16C02E, 0xF7C07F⟩
  | .wrSubcg3Lo _ => ⟨0x16802F, 0xF7C07F⟩
  | .wrSubcg3Hi _ => ⟨0x16C02F, 0xF7C07F⟩
  | .wrScrx0Lo _ => ⟨0x168030, 0xF7C07F⟩
  | .wrScrx0Hi _ => ⟨0x16C030, 0xF7C07F⟩
  | .wrScry0Lo _ => ⟨0x168031, 0xF7C07F⟩
  | .wrScry0Hi _ => ⟨0x16C031, 0xF7C07F⟩
  | .wrScrx1Lo _ => ⟨0x168032, 0xF7C07F⟩
  | .wrScrx1Hi _ => ⟨0x16C032, 0xF7C07F⟩
  | .wrScry1Lo _ => ⟨0x168033, 0xF7C07F⟩
  | .wrScry1Hi _ => ⟨0x16C033, 0xF7C07F⟩
  | .wrScrx2Lo _ => ⟨0x168034, 0xF7C07F⟩
  | .wrScrx2Hi _ => ⟨0x16C034, 0xF7C07F⟩
  | .wrScry2Lo _ => ⟨0x168035, 0xF7C07F⟩
  | .wrScry2Hi _ => ⟨0x16C035, 0xF7C07F⟩
  | .wrScrx3Lo _ => ⟨0x168036, 0xF7C07F⟩
  | .wrScrx3Hi _ => ⟨0x16C036, 0xF7C07F⟩
  | .wrScry3Lo _ => ⟨0x168037, 0xF7C07F⟩
  | .wrScry3Hi _ => ⟨0x16C037, 0xF7C07F⟩
  | .wrAffaLo _ => ⟨0x168038, 0xF7C07F⟩
  | .wrAffaHi _ => ⟨0x16C038, 0xF7C07F⟩
  | .wrAffbLo _ => ⟨0x168039, 0xF7C07F⟩
  | .wrAffbHi _ => ⟨0x16C039, 0xF7C07F⟩
  | .wrAffcLo _ => ⟨0x16803A, 0xF7C07F⟩
  | .wrAffcHi _ => ⟨0x16C03A, 0xF7C07F⟩
  | .wrAffdLo _ => ⟨0x16803B, 0xF7C07F⟩
  | .wrAffdHi _ => ⟨0x16C03B, 0xF7C07F⟩
  | .wrCtrxLo _ => ⟨0x16803C, 0xF7C07F⟩
  | .wrCtrxHi _ => ⟨0x16C03C, 0xF7C07F⟩
  | .wrCtryLo _ => ⟨0x16803D, 0xF7C07F⟩
  | .wrCtryHi _ => ⟨0x16C03D, 0xF7C07F⟩
  | .wrBgsize0Lo _ => ⟨0x16803E, 0xF7C07F⟩
  | .wrBgsize0Hi _ => ⟨0x16C03E, 0xF7C07F⟩
  | .wrBgsize1Lo _ => ⟨0x16803F, 0xF7C07F⟩
  | .wrBgsize1Hi _ => ⟨0x16C03F, 0xF7C07F⟩
  | .wrBgsize2Lo _ => ⟨0x168040, 0xF7C07F⟩
  | .wrBgsize2Hi _ => ⟨0x16C040, 0xF7C07F⟩
  | .wrBgsize3Lo _ => ⟨0x168041, 0xF7C07F⟩
  | .wrBgsize3Hi _ => ⟨0x16C041, 0xF7C07F⟩
  | .wrOvlctlLo _ => ⟨0x168044, 0xF7C07F⟩
  | .wrOvlctlHi _ => ⟨0x16C044, 0xF7C07F⟩
  | .wrOvladdrLo _ => ⟨0x168045, 0xF7C07F⟩
  | .wrOvladdrHi _ => ⟨0x16C045, 0xF7C07F⟩
  | .wrOvlblocksLo _ => ⟨0x168046, 0xF7C07F⟩
  | .wrOvlblocksHi _ => ⟨0x16C046, 0xF7C07F⟩
  | .wrRirqlineLo _ => ⟨0x168047, 0xF7C07F⟩
  | .wrRirqlineHi _ => ⟨0x16C047, 0xF7C07F⟩
  | .wrAdctlLo _ => ⟨0x168050, 0xF7C07F⟩
  | .wrAdctlHi _ => ⟨0x16C050, 0xF7C07F⟩
  | .wrPlay0Lo _ => ⟨0x168051, 0xF7C07F⟩
  | .wrPlay0Hi _ => ⟨0x16C051, 0xF7C07F⟩
  | .wrEnd0Lo _ => ⟨0x168052, 0xF7C07F⟩
  | .wrEnd0Hi _ => ⟨0x16C052, 0xF7C07F⟩
  | .wrInter0Lo _ => ⟨0x168053, 0xF7C07F⟩
  | .wrInter0Hi _ => ⟨0x16C053, 0xF7C07F⟩
  | .wrAdstatLo _ => ⟨0x168054, 0xF7C07F⟩
  | .wrAdstatHi _ => ⟨0x16C054, 0xF7C07F⟩
  | .wrPlay1Lo _ => ⟨0x168055, 0xF7C07F⟩
  | .wrPlay1Hi _ => ⟨0x16C055, 0xF7C07F⟩
  | .wrEnd1Lo _ => ⟨0x168056, 0xF7C07F⟩
  | .wrEnd1Hi _ => ⟨0x16C056, 0xF7C07F⟩
  | .wrInter1Lo _ => ⟨0x168057, 0xF7C07F⟩
  | .wrInter1Hi _ => ⟨0x16C057, 0xF7C07F⟩
  | .wrKUnknown _ _ _ => ⟨0x160000, 0xF70000⟩
  | .rdKUnknown _ _ => ⟨0x060000, 0xF70000⟩
  | .wrNospace _ _ => ⟨0x100000, 0xF00000⟩
  | .rdNospace _ => ⟨0x000000, 0xF00000⟩
  | .run _ => ⟨0x200000, 0xF00000⟩
  | .reset _ => ⟨0x300000, 0xF00000⟩
  | .save => ⟨0x400000, 0xF00000⟩
  | .restore _ => ⟨0x500000, 0xF00000⟩
  | .playfetch _ => ⟨0x600000, 0xF00000⟩
  | .rdCstat => ⟨0x030000, 0xF78000⟩
  | .rdPmode => ⟨0x038000, 0xF7C07F⟩
  | .rdPaladdr => ⟨0x038001, 0xF7C07F⟩
  | .rdPalwdata => ⟨0x038002, 0xF7C07F⟩
  | .rdPalrdata => ⟨0x038003, 0xF7C07F⟩
  | .rdPalofs0 => ⟨0x038004, 0xF7C07F⟩
  | .rdPalofs1 => ⟨0x038005, 0xF7C07F⟩
  | .rdPalofs2 => ⟨0x038006, 0xF7C07F⟩
  | .rdPalofs3 => ⟨0x038007, 0xF7C07F⟩
  | .rdPrio0 => ⟨0x038008, 0xF7C07F⟩
  | .rdPrio1 => ⟨0x038009, 0xF7C07F⟩
  | .rdKeyy => ⟨0x03800A, 0xF7C07F⟩
  | .rdKeyu => ⟨0x03800B, 0xF7C07F⟩
  | .rdKeyv => ⟨0x03800C, 0xF7C07F⟩
  | .rdFixcol => ⟨0x03800D, 0xF7C07F⟩
  | .rdCelctl => ⟨0x03800E, 0xF7C07F⟩
  | .rdSprmask => ⟨0x03800F, 0xF7C07F⟩
  | .rdCoef0 => ⟨0x038010, 0xF7C07F⟩
  | .rdCoef1 => ⟨0x038011, 0xF7C07F⟩
  | .rdCoef2 => ⟨0x038012, 0xF7C07F⟩
  | .rdCoef3 => ⟨0x038013, 0xF7C07F⟩
  | .rdCoef4 => ⟨0x038014, 0xF7C07F⟩
  | .rdCoef5 => ⟨0x038015, 0xF7C07F⟩
  | .rdCHigh => ⟨0x03C000, 0xF7C000⟩
  | .rdKstat => ⟨0x060000, 0xF78000⟩
  | .rdSdataLo => ⟨0x068000, 0xF7C07F⟩
  | .rdSdataHi => ⟨0x06C000, 0xF7C07F⟩
  | .rdScmdLo => ⟨0x068001, 0xF7C07F⟩
  | .rdScmdHi => ⟨0x06C001, 0xF7C07F⟩
  | .rdSmodeLo => ⟨0x068002, 0xF7C07F⟩
  | .rdSmodeHi => ⟨0x06C002, 0xF7C07F⟩
  | .rdSphaseLo => ⟨0x068003, 0xF7C07F⟩
  | .rdSphaseHi => ⟨0x06C003, 0xF7C07F⟩
  | .rdSbusLo => ⟨0x068004, 0xF7C07F⟩
  | .rdSbusHi => ⟨0x06C004, 0xF7C07F⟩
  | .rdSstatLo => ⟨0x068005, 0xF7C07F⟩
  | .rdSstatHi => ⟨0x06C005, 0xF7C07F⟩
  | .rdSinLo => ⟨0x068006, 0xF7C07F⟩
  | .rdSinHi => ⟨0x06C006, 0xF7C07F⟩
  | .rdSrstLo => ⟨0x068007, 0xF7C07F⟩
  | .rdSrstHi => ⟨0x06C007, 0xF7C07F⟩
  | .rdSackLo => ⟨0x068008, 0xF7C07F⟩
  | .rdSackHi => ⟨0x06C008, 0xF7C07F⟩
  | .rdDmaaddrLo => ⟨0x068009, 0xF7C07F⟩
  | .rdDmaaddrHi => ⟨0x06C009, 0xF7C07F⟩
  | .rdDmasizeLo => ⟨0x06800A, 0xF7C07F⟩
  | .rdDmasizeHi => ⟨0x06C00A, 0xF7C07F⟩
  | .rdDmactlLo => ⟨0x06800B, 0xF7C07F⟩
  | .rdDmactlHi => ⟨0x06C00B, 0xF7C07F⟩
  | .rdKramraLo => ⟨0x06800C, 0xF7C07F⟩
  | .rdKramraHi => ⟨0x06C00C, 0xF7C07F⟩
  | .rdKramwaLo => ⟨0x06800D, 0xF7C07F⟩
  | .rdKramwaHi => ⟨0x06C00D, 0xF7C07F⟩
  | .rdKramdataLo => ⟨0x06800E, 0xF7C07F⟩
  | .rdKramdataHi => ⟨0x06C00E, 0xF7C07F⟩
  | .rdPageLo => ⟨0x06800F, 0xF7C07F⟩
  | .rdPageHi => ⟨0x06C00F, 0xF7C07F⟩
  | .rdMpaddrLo => ⟨0x068010, 0xF7C07F⟩
  | .rdMpaddrHi => ⟨0x06C010, 0xF7C07F⟩
  | .rdMpdataLo => ⟨0x068011, 0xF7C07F⟩
  | .rdMpdataHi => ⟨0x06C011, 0xF7C07F⟩
  | .rdMpctlLo => ⟨0x068012, 0xF7C07F⟩
  | .rdMpctlHi => ⟨0x06C012, 0xF7C07F⟩
  | .rdBgendlessLo => ⟨0x068013, 0xF7C07F⟩
  | .rdBgendlessHi => ⟨0x06C013, 0xF7C07F⟩
  | .rdBgmodeLo => ⟨0x068015, 0xF7C07F⟩
  | .rdBgmodeHi => ⟨0x06C015, 0xF7C07F⟩
  | .rdBat0Lo => ⟨0x068020, 0xF7C07F⟩
  | .rdBat0Hi => ⟨0x06C020, 0xF7C07F⟩
  | .rdBat1Lo => ⟨0x068021, 0xF7C07F⟩
  | .rdBat1Hi => ⟨0x06C021, 0xF7C07F⟩
  | .rdBat2Lo => ⟨0x068022, 0xF7C07F⟩
  | .rdBat2Hi => ⟨0x06C022, 0xF7C07F⟩
  | .rdBat3Lo => ⟨0x068023, 0xF7C07F⟩
  | .rdBat3Hi => ⟨0x06C023, 0xF7C07F⟩
  | .rdCg0Lo => ⟨0x068024, 0xF7C07F⟩
  | .rdCg0Hi => ⟨0x06C024, 0xF7C07F⟩
  | .rdCg1Lo => ⟨0x068025, 0xF7C07F⟩
  | .rdCg1Hi => ⟨0x06C025, 0xF7C07F⟩
  | .rdCg2Lo => ⟨0x068026, 0xF7C07F⟩
  | .rdCg2Hi => ⟨0x06C026, 0xF7C07F⟩
  | .rdCg3Lo => ⟨0x068027, 0xF7C07F⟩
  | .rdCg3Hi => ⟨0x06C027, 0xF7C07F⟩
  | .rdSubbat0Lo => ⟨0x068028, 0xF7C07F⟩
  | .rdSubbat0Hi => ⟨0x06C028, 0xF7C07F⟩
  | .rdSubbat1Lo => ⟨0x068029, 0xF7C07F⟩
  | .rdSubbat1Hi => ⟨0x06C029, 0xF7C07F⟩
  | .rdSubbat2Lo => ⟨0x06802A, 0xF7C07F⟩
  | .rdSubbat2Hi => ⟨0x06C02A, 0xF7C07F⟩
  | .rdSubbat3Lo => ⟨0x06802B, 0xF7C07F⟩
  | .rdSubbat3Hi => ⟨0x06C02B, 0xF7C07F⟩
  | .rdSubcg0Lo => ⟨0x06802C, 0xF7C07F⟩
  | .rdSubcg0Hi => ⟨0x06C02C, 0xF7C07F⟩
  | .rdSubcg1Lo => ⟨0x06802D, 0xF7C07F⟩
  | .rdSubcg1Hi => ⟨0x06C02D, 0xF7C07F⟩
  | .rdSubcg2Lo => ⟨0x06802E, 0xF7C07F⟩
  | .rdSubcg2Hi => ⟨0x06C02E, 0xF7C07F⟩
  | .rdSubcg3Lo => ⟨0x06802F, 0xF7C07F⟩
  | .rdSubcg3Hi => ⟨0x06C02F, 0xF7C07F⟩
  | .rdScrx0Lo => ⟨0x068030, 0xF7C07F⟩
  | .rdScrx0Hi => ⟨0x06C030, 0xF7C07F⟩
  | .rdScry0Lo => ⟨0x068031, 0xF7C07F⟩
  | .rdScry0Hi => ⟨0x06C031, 0xF7C07F⟩
  | .rdScrx1Lo => ⟨0x068032, 0xF7C07F⟩
  | .rdScrx1Hi => ⟨0x06C032, 0xF7C07F⟩
  | .rdScry1Lo => ⟨0x068033, 0xF7C07F⟩
  | .rdScry1Hi => ⟨0x06C033, 0xF7C07F⟩
  | .rdScrx2Lo => ⟨0x068034, 0xF7C07F⟩
  | .rdScrx2Hi => ⟨0x06C034, 0xF7C07F⟩
  | .rdScry2Lo => ⟨0x068035, 0xF7C07F⟩
  | .rdScry2Hi => ⟨0x06C035, 0xF7C07F⟩
  | .rdScrx3Lo => ⟨0x068036, 0xF7C07F⟩
  | .rdScrx3Hi => ⟨0x06C036, 0xF7C07F⟩
  | .rdScry3Lo => ⟨0x068037, 0xF7C07F⟩
  | .rdScry3Hi => ⟨0x06C037, 0xF7C07F⟩
  | .rdAffaLo => ⟨0x068038, 0xF7C07F⟩
  | .rdAffaHi => ⟨0x06C038, 0xF7C07F⟩
  | .rdAffbLo => ⟨0x068039, 0xF7C07F⟩
  | .rdAffbHi => ⟨0x06C039, 0xF7C07F⟩
  | .rdAffcLo => ⟨0x06803A, 0xF7C07F⟩
  | .rdAffcHi => ⟨0x06C03A, 0xF7C07F⟩
  | .rdAffdLo => ⟨0x06803B, 0xF7C07F⟩
  | .rdAffdHi => ⟨0x06C03B, 0xF7C07F⟩
  | .rdCtrxLo => ⟨0x06803C, 0xF7C07F⟩
  | .rdCtrxHi => ⟨0x06C03C, 0xF7C07F⟩
  | .rdCtryLo => ⟨0x06803D, 0xF7C07F⟩
  | .rdCtryHi => ⟨0x06C03D, 0xF7C07F⟩
  | .rdBgsize0Lo => ⟨0x06803E, 0xF7C07F⟩
  | .rdBgsize0Hi => ⟨0x06C03E, 0xF7C07F⟩
  | .rdBgsize1Lo => ⟨0x06803F, 0xF7C07F⟩
  | .rdBgsize1Hi => ⟨0x06C03F, 0xF7C07F⟩
  | .rdBgsize2Lo => ⟨0x068040, 0xF7C07F⟩
  | .rdBgsize2Hi => ⟨0x06C040, 0xF7C07F⟩
  | .rdBgsize3Lo => ⟨0x068041, 0xF7C07F⟩
  | .rdBgsize3Hi => ⟨0x06C041, 0xF7C07F⟩
  | .rdOvlctlLo => ⟨0x068044, 0xF7C07F⟩
  | .rdOvlctlHi => ⟨0x06C044, 0xF7C07F⟩
  | .rdOvladdrLo => ⟨0x068045, 0xF7C07F⟩
  | .rdOvladdrHi => ⟨0x06C045, 0xF7C07F⟩
  | .rdOvlblocksLo => ⟨0x068046, 0xF7C07F⟩
  | .rdOvlblocksHi => ⟨0x06C046, 0xF7C07F⟩
  | .rdRirqlineLo => ⟨0x068047, 0xF7C07F⟩
  | .rdRirqlineHi => ⟨0x06C047, 0xF7C07F⟩
  | .rdAdctlLo => ⟨0x068050, 0xF7C07F⟩
  | .rdAdctlHi => ⟨0x06C050, 0xF7C07F⟩
  | .rdPlay0Lo => ⟨0x068051, 0xF7C07F⟩
  | .rdPlay0Hi => ⟨0x06C051, 0xF7C07F⟩
  | .rdEnd0Lo => ⟨0x068052, 0xF7C07F⟩
  | .rdEnd0Hi => ⟨0x06C052, 0xF7C07F⟩
  | .rdInter0Lo => ⟨0x068053, 0xF7C07F⟩
  | .rdInter0Hi => ⟨0x06C053, 0xF7C07F⟩
  | .rdAdstatLo => ⟨0x068054, 0xF7C07F⟩
  | .rdAdstatHi => ⟨0x06C054, 0xF7C07F⟩
  | .rdPlay1Lo => ⟨0x068055, 0xF7C07F⟩
  | .rdPlay1Hi => ⟨0x06C055, 0xF7C07F⟩
  | .rdEnd1Lo => ⟨0x068056, 0xF7C07F⟩
  | .rdEnd1Hi => ⟨0x06C056, 0xF7C07F⟩
  | .rdInter1Lo => ⟨0x068057, 0xF7C07F⟩
  | .rdInter1Hi => ⟨0x06C057, 0xF7C07F⟩

end Sys2Proof
end

