-- ==== Sys2Proof/Machine/Fetch.lean ====
section
/-! DEFINITION. How a host request becomes an instruction: its timestamp, its decode key, its arguments, the byte of an
8-bit read (30_encoding.md R141; 20_memory.md R101, R102; 46_host_operations.md R530), and the request a decode key
stands for. -/

namespace Sys2Proof.Machine

/-- SEL of a data-port access: the address register of its space (30_encoding.md R141). -/
def selOf (s : State) (space : BitVec 3) (port : Bool) : BitVec 7 :=
  if port then
    if space = 0b011#3 then s.car.setWidth 7 else if space = 0b110#3 then s.kar else 0
  else 0

/-- The key of a bus request (30_encoding.md R141). -/
def busKey (s : State) (cmd : BitVec 4) (a : Nat) (size : Size) : Key :=
  mkKey cmd size (addrSpace a) (addrPort a) (addrHalf a) (addrLane a) (selOf s (addrSpace a) (addrPort a))

/-- The CMD of a reserved request, 7..15 (30_encoding.md R152). -/
def reservedCmd (j : Fin 9) : BitVec 4 := BitVec.ofNat 4 (7 + j.val)

/-- K, the decode key of a request in a state (30_encoding.md R141). -/
def requestKey (s : State) : Request → Key
  | .read _ a size => busKey s 0 a size
  | .write _ a size _ => busKey s 1 a size
  | .run _ => hostKey 2
  | .reset _ => hostKey 3
  | .save => hostKey 4
  | .restore _ => hostKey 5
  | .playfetch _ => hostKey 6
  | .reserved j => hostKey (reservedCmd j)

/-- The arguments of a request; the write value is that of the one 16-bit access (20_memory.md R102;
30_encoding.md R144). -/
def requestArgs : Request → Args
  | .read _ _ _ => Args.zero
  | .write _ a size v => { Args.zero with v := writeValue size (addrLane a) v }
  | .run n => { Args.zero with n := n }
  | .reset t => { Args.zero with t := t }
  | .save => Args.zero
  | .restore x => { Args.zero with s := x }
  | .playfetch c => { Args.zero with c := c }
  | .reserved _ => Args.zero

/-- The timestamp of a bus request (46_host_operations.md R530). -/
def requestTime : Request → Option Nat
  | .read t _ _ => some t
  | .write t _ _ _ => some t
  | .run _ => none
  | .reset _ => none
  | .save => none
  | .restore _ => none
  | .playfetch _ => none
  | .reserved _ => none

/-- The catch-up of a request: a bus request first runs the scheduler to its timestamp, and is refused when that is
past (46_host_operations.md R530, R537). -/
def catchUp (r : Request) (s : State) : Except Refusal State :=
  match requestTime r with
  | none => .ok s
  | some t =>
    if t < s.timing.now then .error (.timestampBeforeNow t s.timing.now)
    else .ok (runClocks (t - s.timing.now) s)

/-- What the host is handed of an access: the addressed byte of an 8-bit read's 16-bit result
(20_memory.md R102; 30_encoding.md R145). -/
def narrowReply (r : Request) (s : State) : State :=
  match r, s.reply with
  | .read _ a size, .word w => s.setReply (readResult size (addrLane a) w)
  | _, _ => s

/-- The refusal of a rejected key (46_host_operations.md R537). -/
def decodeRefusal : DecodeError → Refusal
  | .reservedCommand cmd => .reservedRequest cmd

/-- The request whose key is `k`, every argument 0, made at time `t` (30_encoding.md R141). -/
def requestOfKey (t : Nat) (k : Key) : Request :=
  let a := mkAddr (keySpace k) (keyPort k) (keyHalf k) (keyLane k)
  match (keyCmd k).toNat with
  | 0 => .read t a (keySize k)
  | 1 => .write t a (keySize k) 0
  | 2 => .run 0
  | 3 => .reset 0
  | 4 => .save
  | 5 => .restore Snapshot.zero
  | 6 => .playfetch .ch0
  | _ => .reserved (Fin.ofNat 9 ((keyCmd k).toNat - 7))

/-- The address register that a data-port key's SEL needs (30_encoding.md R141). -/
def selectFor (k : Key) (s : State) : State :=
  if (keyCmd k).toNat ≤ 1 ∧ keyPort k = true then
    if keySpace k = 0b011#3 then s.setCar ((keySel k).setWidth 5)
    else if keySpace k = 0b110#3 then s.setKar (keySel k)
    else s
  else s

end Sys2Proof.Machine
end

