-- ==== Sys2Proof/Machine/Step.lean ====
section
/-! DEFINITION. One step: the next host request, from its catch-up to its reply (46_host_operations.md R530). -/

namespace Sys2Proof.Machine

/-- What the step does after the instruction: hand the host its part of the result. -/
def finishRequest (r : Request) : Host.Outcome State Fault Refusal → Host.Outcome State Fault Refusal
  | .next s => .next (narrowReply r s)
  | .fault f => .fault f
  | .refused e => .refused e

/-- Perform one request: catch up, decode, execute (46_host_operations.md R530, R537). -/
def perform (r : Request) (s : State) : Host.Outcome State Fault Refusal :=
  match catchUp r s with
  | .error e => .refused e
  | .ok s1 =>
    match decode (requestKey s1 r) (requestArgs r) with
    | .error e => .refused (decodeRefusal e)
    | .ok i => finishRequest r (exec i s1)

/-- One step: the first waiting request is taken and performed; with none waiting the block does nothing
(60_exceptions.md R562; DEDUCED, safe; log 20). -/
def step (s : State) : Host.Outcome State Fault Refusal :=
  match s.requests with
  | [] => .next s
  | r :: rest => perform r (s.setRequests rest)

/-- `s` with the request of key `w` waiting first, every argument 0, its timestamp NOW, and the address register that
its SEL names (log 1). -/
def State.withFetchWord (s : State) (_nbits w : Nat) : State :=
  let k := BitVec.ofNat 24 w
  (selectFor k s).setRequests (requestOfKey s.timing.now k :: s.requests)

end Sys2Proof.Machine
end

