-- ==== Sys2Proof/Safety.lean ====
section
/-! DEFINITION. What a good state is, and how the statements say what an instruction does: the invariants of the block,
one per kind of state, and completion with the interrupt output told. -/

namespace Sys2Proof.Machine

/-! ## Invariants -/

/-- Every stored bit lies in its register's writable mask (10_state.md R44), in the live registers and in RC. -/
def MasksHold (s : State) : Prop :=
  maskPic s.pic = s.pic ∧ maskPic s.rc.pic = s.rc.pic ∧ maskScsi s.scsi = s.scsi ∧
    s.dma.ctl &&& 0x0001#16 = s.dma.ctl ∧ s.play.ctl &&& 0x003F#16 = s.play.ctl ∧
    s.ovl.ctl &&& 0x0003#16 = s.ovl.ctl ∧ s.mp.ctl &&& 0x0001#16 = s.mp.ctl ∧
    s.kctl.page &&& 0x01010011#32 = s.kctl.page

/-- The scheduler's counters are in their ranges between requests (10_state.md R39, R40, R42, R70, R71). A PMODE write
may leave RASTER at 262 in a frame of 262 lines, and DIVREM below the other mode's divider, until the next step. -/
def CountersHold (s : State) : Prop :=
  s.timing.raster.toNat ≤ 262 ∧ s.rc.line.toNat ≤ 262 ∧ 1 ≤ s.timing.hcnt ∧ 1 ≤ s.timing.hscnt ∧
    s.timing.hscnt ≤ s.cfg.hsEvery ∧ s.extcnt ≠ some 0 ∧
    s.timing.divrem < max (s.cfg.divOf false) (s.cfg.divOf true)

/-- The live palette cache mirrors the palette (10_state.md R35; 43_palette_yuv.md R413). -/
def PaletteMirrored (s : State) : Prop :=
  ∀ i : BitVec 9,
    pcacheGet s.pcache (i.setWidth 10) = expand (palGet s.palette.pal i) ∧
      pcacheGet s.pcache (i.setWidth 10 + 512#10) = expand (palGet s.palette.pal i)

/-- RC's ranks are those of RC's registers (10_state.md R46; 44_compositor.md R443). -/
def RanksResolved (s : State) : Prop := s.rcd.rank = resolveRanks s.rc.pic

/-- KRAM is in canonical form. -/
def KramCanonical (s : State) : Prop := s.kram.wf = true

/-- A row the compositor may read: W_MAX entries, no IDX(0) (10_state.md R73; 44_compositor.md R441). -/
def RowProper (c : Params) (row : List PixEntry) : Prop :=
  row.length = c.wMax ∧ PixEntry.idx 0 ∉ row

/-- The line buffers have their lengths and hold proper entries (10_state.md R73). -/
def BuffersProper (s : State) : Prop :=
  s.line.tbuf.length = s.cfg.wMax ∧ RowProper s.cfg s.line.obuf ∧ RowProper s.cfg s.line.bgrows.bg0 ∧
    RowProper s.cfg s.line.bgrows.bg1 ∧ RowProper s.cfg s.line.bgrows.bg2 ∧
    RowProper s.cfg s.line.bgrows.bg3

/-- The output rows are a map: lines rising, none listed twice, each among 0..VIS_COUNT-1 (10_state.md R74). -/
def RowsSorted (s : State) : Prop :=
  (s.out.rows.map Prod.fst).Pairwise (· < ·) ∧ ∀ r ∈ s.out.rows, r.1 < s.cfg.visibleLines

/-- The host was told the present IRQ level (10_state.md R75; 60_exceptions.md R551). -/
def IrqTold (s : State) : Prop := s.lastIrq = irqLevel s

/-! ## Completion -/

/-- `t` is `s` with IRQ re-evaluated: the host is told the level if it changed, and nothing else differs
(60_exceptions.md R551). -/
def Told (s t : State) : Prop :=
  t = (s.setCalls (if s.lastIrq = irqLevel s then s.calls else .setIrq (irqLevel s) :: s.calls)).setLastIrq (irqLevel s)

/-- Instruction `i` completes in `s`: `exec` answers a next state, which is the given state `e` (the instruction's own
effect on `s`, everything else of `s` unchanged) with the given reply and IRQ re-evaluated. -/
def Completes (i : Instr) (s : State) (reply : Reply) (e : State) : Prop :=
  ∃ t, exec i s = .next t ∧ Told (e.setReply reply) t

/-- The instruction stores nothing and returns nothing. -/
def NoEffect (i : Instr) (s : State) : Prop := Completes i s .nothing s

/-- The instruction returns the 16-bit value `r` and changes nothing else. -/
def JustReads (i : Instr) (s : State) (r : Word) : Prop := Completes i s (.word r) s

/-! ## Bus traffic -/

/-- The call for a level that changed, none for one that did not (10_state.md R76). -/
def lineChange (l : Line) (before after : Bool) : List Call := if before = after then [] else [.busSet l after]

/-- The calls for the outputs that differ between two SCSI groups, oldest first, in the order RST, BSY, SEL, ATN, ACK,
data (10_state.md R76; 41_memory_dma_registers.md R271); after the data drive, the byte when it is newly driven or
changed (log 10). -/
def outputChanges (b a : Scsi) : List Call :=
  lineChange .rst (b.scmd.getLsbD 7) (a.scmd.getLsbD 7) ++ lineChange .bsy (b.scmd.getLsbD 3) (a.scmd.getLsbD 3) ++
    lineChange .sel (b.scmd.getLsbD 2) (a.scmd.getLsbD 2) ++ lineChange .atn (b.scmd.getLsbD 1) (a.scmd.getLsbD 1) ++
    lineChange .ack (b.scmd.getLsbD 4 || b.hsAck) (a.scmd.getLsbD 4 || a.hsAck) ++
    lineChange .data (b.scmd.getLsbD 0) (a.scmd.getLsbD 0) ++
    (if a.scmd.getLsbD 0 = true ∧ (b.scmd.getLsbD 0 = false ∨ b.sout ≠ a.sout) then [.busSetData a.sout] else [])

/-- The answers `ls` came from the front of the queue, as far as it reached; the others are free (log 4). -/
def Answered {α : Type} (queue ls : List α) : Prop := queue.take ls.length <+: ls

/-! ## Pictures -/

/-- The colour of layer `l` alone in column `x`, none where it is transparent (44_compositor.md R445 to R447). -/
def layerColour (rc : Latched) (ln : LineBufs) (x : Nat) : Layer → Option Yuv24
  | .bg0 => entryColour rc .bg0 (pixAt ln.bgrows.bg0 x)
  | .bg1 => entryColour rc .bg1 (pixAt ln.bgrows.bg1 x)
  | .bg2 => entryColour rc .bg2 (pixAt ln.bgrows.bg2 x)
  | .bg3 => entryColour rc .bg3 (pixAt ln.bgrows.bg3 x)
  | .ovl => (entryColour rc .ovl (pixAt ln.obuf x)).filter fun c => !keyed rc.pic c
  | .vdcBg =>
    match ln.tbuf.getD x .transparent with
    | .tile .vdcBg v => some (plook rc .vdcBg v)
    | .tile .vdcSpr _ => none
    | .transparent => none
  | .vdcSpr =>
    match ln.tbuf.getD x .transparent with
    | .tile .vdcSpr v => some (plook rc .vdcSpr v)
    | .tile .vdcBg _ => none
    | .transparent => none

end Sys2Proof.Machine
end

