-- ==== Sys2Proof/Certificates/Slice0/Obligations.lean ====
section
/-! DEFINITION. The statements for the provers, one `def Obligations.<Name> : Prop` each; OBLIGATIONS.json lists them. -/

open Sys2Proof Sys2Proof.Machine

/-- Words written out from 30_encoding.md R141, R148 to R150, and the keys of 95_test_vectors.md V-BUS. -/
def Obligations.TableWordsDecodeToTheirRows : Prop :=
  decodeTableWord 24 0x1B0000 = some (.wrCar 0) ∧ decodeTableWord 24 0x0B0000 = some .rdCstat ∧
    decodeTableWord 24 0x1B800D = some (.wrFixcol 0) ∧ decodeTableWord 24 0x0B800D = some .rdFixcol ∧
    decodeTableWord 24 0x1BC008 = some (.wrCHigh 0) ∧ decodeTableWord 24 0x1B801F = some (.wrCUnknown 0x1F 0) ∧
    decodeTableWord 24 0x1E0000 = some (.wrKar 0) ∧ decodeTableWord 24 0x0E0000 = some .rdKstat ∧
    decodeTableWord 24 0x1EC00A = some (.wrDmasizeHi 0) ∧ decodeTableWord 24 0x0E800E = some .rdKramdataLo ∧
    decodeTableWord 24 0x1E8044 = some (.wrOvlctlLo 0) ∧ decodeTableWord 24 0x0E8054 = some .rdAdstatLo ∧
    decodeTableWord 24 0x1E8020 = some (.wrBat0Lo 0) ∧ decodeTableWord 24 0x1E8011 = some (.wrMpdataLo 0) ∧
    decodeTableWord 24 0x0E8014 = some (.rdKUnknown false 0x14) ∧ decodeTableWord 24 0x098000 = some (.rdNospace 1) ∧
    decodeTableWord 24 0x200000 = some (.run 0) ∧ decodeTableWord 24 0x300000 = some (.reset 0) ∧
    decodeTableWord 24 0x400000 = some .save ∧ decodeTableWord 24 0x500000 = some (.restore Snapshot.zero) ∧
    decodeTableWord 24 0x600000 = some (.playfetch .ch0) ∧ decodeTableWord 24 0x700000 = none

/-- 30_encoding.md R141, R142: no operand and no field of an instruction is lost in its key and arguments. -/
def Obligations.DecodeOfEncodeIsTheInstruction : Prop :=
  ∀ i : Instr, i.wf = true → decode (encode i).1 (encode i).2 = .ok i

/-- 30_encoding.md R142, for every key whatever its bits; what is decoded is well-formed. -/
def Obligations.DecodeSelectsTheLongestMatchingMask : Prop :=
  ∀ (k : Key) (a : Args),
    ((keyCmd k).toNat ≤ 6 →
      ∃ i, decode k a = .ok i ∧ i.wf = true ∧ i.row.fits k = true ∧
        ∀ j : Instr, j.row.fits k = true → j.row = i.row ∨ j.row.weight < i.row.weight) ∧
      (7 ≤ (keyCmd k).toNat →
        decode k a = .error (.reservedCommand (keyCmd k)) ∧ ∀ j : Instr, j.row.fits k = false)

/-- 30_encoding.md R141: the fields of K, bit by bit, for a bus request in a state. -/
def Obligations.RequestKeyHoldsTheAccessFields : Prop :=
  ∀ (s : State) (t a : Nat) (size : Size) (v : Word) (r : Request),
    (r = .read t a size ∨ r = .write t a size v) →
      (requestKey s r).extractLsb' 20 4 = (if r = .read t a size then 0#4 else 1#4) ∧
      (requestKey s r).getLsbD 19 = decide (size = .half) ∧
      (requestKey s r).extractLsb' 16 3 = BitVec.ofNat 3 (a / 256) ∧
      (requestKey s r).getLsbD 15 = a.testBit 2 ∧
      (requestKey s r).getLsbD 14 = a.testBit 1 ∧
      (requestKey s r).getLsbD 13 = a.testBit 0 ∧
      (requestKey s r).extractLsb' 7 6 = 0#6 ∧
      (a.testBit 2 = false → (requestKey s r).extractLsb' 0 7 = 0#7) ∧
      (a.testBit 2 = true → a / 256 % 8 = 3 → (requestKey s r).extractLsb' 0 7 = s.car.setWidth 7) ∧
      (a.testBit 2 = true → a / 256 % 8 = 6 → (requestKey s r).extractLsb' 0 7 = s.kar)

/-- 46_host_operations.md R530: catch-up, decode, execute, and the host's part of the result. -/
def Obligations.StepRunsTheDecodedInstruction : Prop :=
  (∀ (s s1 t : State) (r : Request) (rest : List Request) (i : Instr),
      s.requests = r :: rest → catchUp r (s.setRequests rest) = .ok s1 →
      decode (requestKey s1 r) (requestArgs r) = .ok i → i.wf = true → exec i s1 = .next t →
        step s = .next (narrowReply r t)) ∧
    (∀ (s : State) (t a : Nat) (size : Size), s.timing.now ≤ t →
      catchUp (.read t a size) s = .ok (runClocks (t - s.timing.now) s)) ∧
    (∀ (s : State) (t a : Nat) (size : Size) (v : Word), s.timing.now ≤ t →
      catchUp (.write t a size v) s = .ok (runClocks (t - s.timing.now) s)) ∧
    (∀ (s : State) (r : Request), requestTime r = none → catchUp r s = .ok s) ∧
    ∀ s : State, s.requests = [] → step s = .next s

/-- 46_host_operations.md R537. -/
def Obligations.StaleAndReservedRequestsAreRefused : Prop :=
  (∀ (s : State) (rest : List Request) (t a : Nat) (size : Size),
      s.requests = .read t a size :: rest → t < s.timing.now →
        step s = .refused (.timestampBeforeNow t s.timing.now)) ∧
    (∀ (s : State) (rest : List Request) (t a : Nat) (size : Size) (v : Word),
      s.requests = .write t a size v :: rest → t < s.timing.now →
        step s = .refused (.timestampBeforeNow t s.timing.now)) ∧
    ∀ (s : State) (rest : List Request) (j : Fin 9),
      s.requests = .reserved j :: rest → step s = .refused (.reservedRequest (BitVec.ofNat 4 (7 + j.val)))

/-- 00_scope.md R17: every operation is total, nothing else is refused and nothing faults. -/
def Obligations.EveryOtherRequestIsPerformed : Prop :=
  ∀ (s : State) (r : Request) (rest : List Request), s.requests = r :: rest → (∀ j, r ≠ .reserved j) →
    (∀ t, requestTime r = some t → s.timing.now ≤ t) → ∃ u, step s = .next u ∧ u.cfg = s.cfg ∧ u.requests = rest

/-- 00_scope.md R17; 60_exceptions.md R551; 10_state.md R75: after every request the level last sent is the OR of the
five conditions. -/
def Obligations.EveryInstructionCompletesWithTheIrqLevelTold : Prop :=
  ∀ (i : Instr) (s : State),
    ∃ t, exec i s = .next t ∧
      t.lastIrq =
        (t.pend.dma || t.pend.phase || t.pend.subch || t.pend.raster ||
          ((t.play.flags.getLsbD 0 && t.play.ctl.getLsbD 0) || (t.play.flags.getLsbD 1 && t.play.ctl.getLsbD 1) ||
            (t.play.flags.getLsbD 2 && t.play.ctl.getLsbD 2) || (t.play.flags.getLsbD 3 && t.play.ctl.getLsbD 3)))

/-- 20_memory.md R102. -/
def Obligations.ByteAccessIsOneSplitAccess : Prop :=
  (∀ (s : State) (t a : Nat) (v : Byte),
      perform (.write t a .byte (v.setWidth 16)) s =
        perform (.write t (2 * (a / 2)) .half (if a % 2 = 0 then v.setWidth 16 else v.setWidth 16 <<< 8)) s) ∧
    (∀ (s u : State) (t a : Nat), perform (.read t (2 * (a / 2)) .half) s = .next u →
      ∃ w : Word, u.reply = .word w ∧
        perform (.read t a .byte) s =
          .next (u.setReply (.byte (if a % 2 = 0 then w.extractLsb' 0 8 else w.extractLsb' 8 8)))) ∧
    ∀ (s : State) (t a : Nat) (e : Refusal), perform (.read t (2 * (a / 2)) .half) s = .refused e →
      perform (.read t a .byte) s = .refused e

/-- 20_memory.md R101, R105: two addresses with the same A[10:8], A[2], A[1] are one place to a 16-bit access. -/
def Obligations.OtherAddressBitsAreIgnored : Prop :=
  ∀ (s : State) (t a b : Nat) (v : Word), a / 256 % 8 = b / 256 % 8 → a / 2 % 4 = b / 2 % 4 →
    perform (.read t a .half) s = perform (.read t b .half) s ∧
      perform (.write t a .half v) s = perform (.write t b .half v) s

/-- 30_encoding.md R147; nothing else changes (40_controller_registers.md R205; 41_memory_dma_registers.md R262). -/
def Obligations.AddressRegisterWritesKeepTheirLowBits : Prop :=
  ∀ (v : Word) (s : State),
    Completes (.wrCar v) s .nothing (s.setCar (v.extractLsb' 0 5)) ∧
      Completes (.wrKar v) s .nothing (s.setKar (v.extractLsb' 0 7))

/-- 40_controller_registers.md R206; 41_memory_dma_registers.md R261, R331, R338. -/
def Obligations.StatusReadsReturnTheirBits : Prop :=
  (∀ s : State,
      JustReads .rdCstat s
        (s.timing.raster.setWidth 16 ||| (if s.timing.odd then 0x0200#16 else 0#16) |||
          (if s.timing.hphase = .active then 0x0400#16 else 0#16))) ∧
    (∀ (v : Word) (s : State), NoEffect (.wrAdstatLo v) s ∧
      Completes .rdAdstatLo s (.word (s.play.flags.setWidth 16)) (s.setPlay { s.play with flags := 0 })) ∧
    ∀ s : State,
      let play :=
        (s.play.flags.getLsbD 0 && s.play.ctl.getLsbD 0) || (s.play.flags.getLsbD 1 && s.play.ctl.getLsbD 1) ||
          (s.play.flags.getLsbD 2 && s.play.ctl.getLsbD 2) || (s.play.flags.getLsbD 3 && s.play.ctl.getLsbD 3)
      Completes .rdKstat s
        (.word
          ((if s.pend.dma then 0x0001#16 else 0#16) ||| (if s.pend.phase then 0x0002#16 else 0#16) |||
            (if s.pend.subch then 0x0004#16 else 0#16) ||| (if s.pend.raster then 0x0008#16 else 0#16) |||
            (if play then 0x0010#16 else 0#16) |||
            (if s.pend.dma || s.pend.phase || s.pend.subch || s.pend.raster || play then 0x0020#16 else 0#16) |||
            (if s.scsi.drq then 0x0040#16 else 0#16)))
        (s.setPend { dma := false, phase := false, subch := false, raster := false })

/-- 40_controller_registers.md R201 and the masks of its section 1, register by register. -/
def Obligations.ControllerStoresMaskAndLoadBack : Prop :=
  (∀ (v : Word) (s : State),
      Completes (.wrPmode v) s .nothing (s.setPic { s.pic with pmode := v &&& 0x7F0B#16 }) ∧
        Completes (.wrPalofs0 v) s .nothing (s.setPic { s.pic with palofs0 := v }) ∧
        Completes (.wrPalofs1 v) s .nothing (s.setPic { s.pic with palofs1 := v }) ∧
        Completes (.wrPalofs2 v) s .nothing (s.setPic { s.pic with palofs2 := v }) ∧
        Completes (.wrPalofs3 v) s .nothing (s.setPic { s.pic with palofs3 := v &&& 0x00FF#16 }) ∧
        Completes (.wrPrio0 v) s .nothing (s.setPic { s.pic with prio0 := v }) ∧
        Completes (.wrPrio1 v) s .nothing (s.setPic { s.pic with prio1 := v &&& 0x0FFF#16 }) ∧
        Completes (.wrKeyy v) s .nothing (s.setPic { s.pic with keyy := v }) ∧
        Completes (.wrKeyu v) s .nothing (s.setPic { s.pic with keyu := v }) ∧
        Completes (.wrKeyv v) s .nothing (s.setPic { s.pic with keyv := v }) ∧
        Completes (.wrFixcol v) s .nothing (s.setPic { s.pic with fixcol := v }) ∧
        Completes (.wrCelctl v) s .nothing (s.setPic { s.pic with celctl := v }) ∧
        Completes (.wrSprmask v) s .nothing (s.setPic { s.pic with sprmask := v }) ∧
        Completes (.wrCoef0 v) s .nothing (s.setPic { s.pic with coef0 := v.extractLsb' 0 12 }) ∧
        Completes (.wrCoef1 v) s .nothing (s.setPic { s.pic with coef1 := v.extractLsb' 0 12 }) ∧
        Completes (.wrCoef2 v) s .nothing (s.setPic { s.pic with coef2 := v.extractLsb' 0 12 }) ∧
        Completes (.wrCoef3 v) s .nothing (s.setPic { s.pic with coef3 := v.extractLsb' 0 12 }) ∧
        Completes (.wrCoef4 v) s .nothing (s.setPic { s.pic with coef4 := v.extractLsb' 0 12 }) ∧
        Completes (.wrCoef5 v) s .nothing (s.setPic { s.pic with coef5 := v.extractLsb' 0 12 })) ∧
    ∀ s : State,
      JustReads .rdPmode s s.pic.pmode ∧
        JustReads .rdPalofs0 s s.pic.palofs0 ∧
        JustReads .rdPalofs1 s s.pic.palofs1 ∧
        JustReads .rdPalofs2 s s.pic.palofs2 ∧
        JustReads .rdPalofs3 s s.pic.palofs3 ∧
        JustReads .rdPrio0 s s.pic.prio0 ∧
        JustReads .rdPrio1 s s.pic.prio1 ∧
        JustReads .rdKeyy s s.pic.keyy ∧
        JustReads .rdKeyu s s.pic.keyu ∧
        JustReads .rdKeyv s s.pic.keyv ∧
        JustReads .rdFixcol s s.pic.fixcol ∧
        JustReads .rdCelctl s s.pic.celctl ∧
        JustReads .rdSprmask s s.pic.sprmask ∧
        JustReads .rdCoef0 s (s.pic.coef0.setWidth 16) ∧
        JustReads .rdCoef1 s (s.pic.coef1.setWidth 16) ∧
        JustReads .rdCoef2 s (s.pic.coef2.setWidth 16) ∧
        JustReads .rdCoef3 s (s.pic.coef3.setWidth 16) ∧
        JustReads .rdCoef4 s (s.pic.coef4.setWidth 16) ∧
        JustReads .rdCoef5 s (s.pic.coef5.setWidth 16)

/-- 40_controller_registers.md R208, R210, R211. -/
def Obligations.PaletteCursorAccesses : Prop :=
  ∀ (v : Word) (s : State),
    Completes (.wrPaladdr v) s .nothing
        (s.setPalette
          { s.palette with cur := v.extractLsb' 0 9, latch := palGet s.palette.pal (v.extractLsb' 0 9) }) ∧
      JustReads .rdPaladdr s (s.palette.cur.setWidth 16) ∧
      Completes .rdPalrdata s (.word s.palette.latch)
        (s.setPalette
          { s.palette with cur := s.palette.cur + 1, latch := palGet s.palette.pal (s.palette.cur + 1) }) ∧
      NoEffect (.wrPalrdata v) s ∧ JustReads .rdPalwdata s 0

/-- 40_controller_registers.md R209; 43_palette_yuv.md R411, R412. -/
def Obligations.PaletteWriteStoresExpandsAndPrefetches : Prop :=
  ∀ (v : Word) (s : State), ∃ (p : Vector Word 512) (c : Vector Yuv24 1024),
    Completes (.wrPalwdata v) s .nothing
        ((s.setPalette { pal := p, cur := s.palette.cur + 1, latch := palGet p (s.palette.cur + 1) }).setPcache c) ∧
      (∀ j : BitVec 9, palGet p j = if j = s.palette.cur then v else palGet s.palette.pal j) ∧
      ∀ j : BitVec 10,
        pcacheGet c j =
          if j.extractLsb' 0 9 = s.palette.cur then
            v.extractLsb' 8 8 ++ v.extractLsb' 4 4 ++ 0#4 ++ v.extractLsb' 0 4 ++ 0#4
          else pcacheGet s.pcache j

/-- 20_memory.md R104; 40_controller_registers.md R202; 41_memory_dma_registers.md R263. -/
def Obligations.UnknownAndNoSpaceAccessesHaveNoEffect : Prop :=
  ∀ (sel : BitVec 7) (high : Bool) (space : BitVec 3) (v : Word) (s : State),
    NoEffect (.wrCUnknown sel v) s ∧ JustReads (.rdCUnknown sel) s s.cfg.unknownRead ∧
      NoEffect (.wrKUnknown high sel v) s ∧ JustReads (.rdKUnknown high sel) s s.cfg.unknownRead ∧
      NoEffect (.wrNospace space v) s ∧ JustReads (.rdNospace space) s s.cfg.unknownRead

/-- 40_controller_registers.md R204; 41_memory_dma_registers.md R264, R298. -/
def Obligations.InertHalvesIgnoreWritesAndReadZero : Prop :=
  ∀ (v : Word) (s : State),
    NoEffect (.wrCHigh v) s ∧ JustReads .rdCHigh s 0 ∧
      NoEffect (.wrSdataHi v) s ∧ JustReads .rdSdataHi s 0 ∧
      NoEffect (.wrScmdHi v) s ∧ JustReads .rdScmdHi s 0 ∧
      NoEffect (.wrSmodeHi v) s ∧ JustReads .rdSmodeHi s 0 ∧
      NoEffect (.wrSphaseHi v) s ∧ JustReads .rdSphaseHi s 0 ∧
      NoEffect (.wrSbusHi v) s ∧ JustReads .rdSbusHi s 0 ∧
      NoEffect (.wrSstatHi v) s ∧ JustReads .rdSstatHi s 0 ∧
      NoEffect (.wrSinHi v) s ∧ JustReads .rdSinHi s 0 ∧
      NoEffect (.wrSrstHi v) s ∧ JustReads .rdSrstHi s 0 ∧
      NoEffect (.wrSackHi v) s ∧ JustReads .rdSackHi s 0 ∧
      NoEffect (.wrKramdataHi v) s ∧ JustReads .rdKramdataHi s 0 ∧
      NoEffect (.wrMpdataHi v) s ∧ JustReads .rdMpdataHi s 0 ∧
      NoEffect (.wrAdstatHi v) s ∧ JustReads .rdAdstatHi s 0

/-- 41_memory_dma_registers.md R270; the byte read is the bus's answer (log 4). -/
def Obligations.DataLatchAccesses : Prop :=
  (∀ (v : Word) (s : State),
      Completes (.wrSdataLo v) s .nothing
        ((s.setScsi { s.scsi with sout := v.extractLsb' 0 8, drq := s.scsi.drq && !s.scsi.sendAct }).setCalls
          (if s.scsi.scmd.getLsbD 0 then .busSetData (v.extractLsb' 0 8) :: s.calls else s.calls))) ∧
    ∀ s : State, ∃ d : Byte, Answered s.script.bytes [d] ∧
      Completes .rdSdataLo s (.word (d.setWidth 16))
        ((s.setCalls (.busGetData :: s.calls)).setScript { s.script with bytes := s.script.bytes.drop 1 })

/-- 41_memory_dma_registers.md R271; 10_state.md R76; the data line's call is log 10's choice. -/
def Obligations.CommandWriteForwardsTheChangedLines : Prop :=
  ∀ (v : Word) (s : State),
    let b := { s.scsi with scmd := v.extractLsb' 0 8 &&& 0x9F#8 }
    Completes (.wrScmdLo v) s .nothing ((s.setScsi b).setCalls ((outputChanges s.scsi b).reverse ++ s.calls))

/-- 41_memory_dma_registers.md R272. -/
def Obligations.ModeWriteStopsTheTransfer : Prop :=
  ∀ (v : Word) (s : State),
    (v.getLsbD 1 = true → Completes (.wrSmodeLo v) s .nothing (s.setScsi { s.scsi with smode := 0x02 })) ∧
      (v.getLsbD 1 = false →
        Completes (.wrSmodeLo v) s .nothing
          (((s.setScsi
            { s.scsi with smode := 0, recvAct := false, sendAct := false, drq := false, hsAck := false }).setDma
            { s.dma with ff := false }).setCalls
              (if s.scsi.hsAck = true ∧ s.scsi.scmd.getLsbD 4 = false then .busSet .ack false :: s.calls
              else s.calls)))

/-- 41_memory_dma_registers.md R273, R276, and the reads of R271 and R272; the inert writes of R274, R276 and R278. -/
def Obligations.PhaseLatchAndScsiReadBack : Prop :=
  ∀ (v : Word) (s : State),
    Completes (.wrSphaseLo v) s .nothing (s.setScsi { s.scsi with sphase := v.extractLsb' 0 8 &&& 0x07#8 }) ∧
      JustReads .rdSphaseLo s (s.scsi.sphase.setWidth 16) ∧
      JustReads .rdScmdLo s (s.scsi.scmd.setWidth 16) ∧
      JustReads .rdSmodeLo s (s.scsi.smode.setWidth 16) ∧
      JustReads .rdSinLo s (s.scsi.scache.setWidth 16) ∧
      NoEffect (.wrSbusLo v) s ∧ NoEffect (.wrSinLo v) s ∧ NoEffect (.wrSackLo v) s

/-- 41_memory_dma_registers.md R274, R275; levels are the bus's answers (log 4), read in log 9's order, ACK with the
own drive (log 5). -/
def Obligations.BusStatusReadsReturnTheLevels : Prop :=
  (∀ s : State, ∃ rst bsy req msg cd io sel : Bool,
      Answered s.script.levels [rst, bsy, req, msg, cd, io, sel] ∧
        Completes .rdSbusLo s
          (.word
            ((if rst then 0x80#16 else 0#16) ||| (if bsy then 0x40#16 else 0#16) ||| (if req then 0x20#16 else 0#16) |||
              (if msg then 0x10#16 else 0#16) ||| (if cd then 0x08#16 else 0#16) ||| (if io then 0x04#16 else 0#16) |||
              (if sel then 0x02#16 else 0#16)))
          ((s.setCalls
            (.busGet .sel :: .busGet .io :: .busGet .cd :: .busGet .msg :: .busGet .req :: .busGet .bsy ::
              .busGet .rst :: s.calls)).setScript { s.script with levels := s.script.levels.drop 7 })) ∧
    ∀ s : State, ∃ msg cd io atn ack : Bool,
      Answered s.script.levels [msg, cd, io, atn, ack] ∧
        Completes .rdSstatLo s
          (.word
            ((if s.scsi.drq then 0x40#16 else 0#16) ||| (if s.pend.phase then 0x10#16 else 0#16) |||
              (if msg = s.scsi.sphase.getLsbD 2 ∧ cd = s.scsi.sphase.getLsbD 1 ∧ io = s.scsi.sphase.getLsbD 0 then
                0x08#16 else 0#16) |||
              (if atn then 0x02#16 else 0#16) |||
              (if ack || s.scsi.scmd.getLsbD 4 || s.scsi.hsAck then 0x01#16 else 0#16)))
          ((s.setCalls
            (.busGet .ack :: .busGet .atn :: .busGet .io :: .busGet .cd :: .busGet .msg :: s.calls)).setScript
              { s.script with levels := s.script.levels.drop 5 })

/-- 41_memory_dma_registers.md R275 (write), R277. -/
def Obligations.TransferStartsAndStatusReset : Prop :=
  ∀ (v : Word) (s : State),
    (s.scsi.smode.getLsbD 1 = true →
      Completes (.wrSstatLo v) s .nothing
          (s.setScsi { s.scsi with sendAct := true, recvAct := false, drq := true }) ∧
        Completes (.wrSrstLo v) s .nothing
          ((s.setScsi { s.scsi with recvAct := true, sendAct := false, drq := false }).setDma
            { s.dma with ff := false })) ∧
      (s.scsi.smode.getLsbD 1 = false → NoEffect (.wrSstatLo v) s ∧ NoEffect (.wrSrstLo v) s) ∧
      Completes .rdSrstLo s (.word 0) (s.setPend { s.pend with phase := false })

/-- 41_memory_dma_registers.md R278. -/
def Obligations.AcknowledgeReadClocksThePseudoTransfer : Prop :=
  ∀ s : State,
    (s.scsi.recvAct = true ∧ s.dma.ctl.getLsbD 0 = false ∧ s.scsi.drq = true →
      Completes .rdSackLo s (.word (s.scsi.scache.setWidth 16))
        ((s.setScsi { s.scsi with drq := false, hsAck := true }).setCalls
          (if s.scsi.scmd.getLsbD 4 || s.scsi.hsAck then s.calls else .busSet .ack true :: s.calls))) ∧
      (¬(s.scsi.recvAct = true ∧ s.dma.ctl.getLsbD 0 = false ∧ s.scsi.drq = true) →
        JustReads .rdSackLo s (s.scsi.scache.setWidth 16))

/-- 41_memory_dma_registers.md R260 for the registers wider than 16 bits: R280, R281, R294, R295, R300, R326. -/
def Obligations.WideRegisterStoresReplaceOneHalf : Prop :=
  ∀ (v : Word) (s : State),
    Completes (.wrDmaaddrLo v) s .nothing (s.setDma { s.dma with addr := s.dma.addr.extractLsb' 16 2 ++ v }) ∧
      Completes (.wrDmaaddrHi v) s .nothing (s.setDma { s.dma with addr := v.extractLsb' 0 2 ++ s.dma.addr.extractLsb' 0 16 }) ∧
      Completes (.wrDmasizeLo v) s .nothing (s.setDma { s.dma with size := s.dma.size.extractLsb' 16 8 ++ v }) ∧
      Completes (.wrDmasizeHi v) s .nothing (s.setDma { s.dma with size := v.extractLsb' 0 8 ++ s.dma.size.extractLsb' 0 16 }) ∧
      Completes (.wrKramraLo v) s .nothing (s.setKctl { s.kctl with ra := s.kctl.ra.extractLsb' 16 12 ++ v }) ∧
      Completes (.wrKramraHi v) s .nothing (s.setKctl { s.kctl with ra := v.extractLsb' 0 12 ++ s.kctl.ra.extractLsb' 0 16 }) ∧
      Completes (.wrKramwaLo v) s .nothing (s.setKctl { s.kctl with wa := s.kctl.wa.extractLsb' 16 12 ++ v }) ∧
      Completes (.wrKramwaHi v) s .nothing (s.setKctl { s.kctl with wa := v.extractLsb' 0 12 ++ s.kctl.wa.extractLsb' 0 16 }) ∧
      Completes (.wrOvladdrLo v) s .nothing (s.setOvl { s.ovl with addr := s.ovl.addr.extractLsb' 16 2 ++ v }) ∧
      Completes (.wrOvladdrHi v) s .nothing (s.setOvl { s.ovl with addr := v.extractLsb' 0 2 ++ s.ovl.addr.extractLsb' 0 16 }) ∧
      Completes (.wrPageLo v) s .nothing (s.setKctl { s.kctl with page := (s.kctl.page.extractLsb' 16 16 ++ v) &&& 0x01010011#32 }) ∧
      Completes (.wrPageHi v) s .nothing (s.setKctl { s.kctl with page := (v ++ s.kctl.page.extractLsb' 0 16) &&& 0x01010011#32 })

/-- 41_memory_dma_registers.md R330, R332; that a high-half write notifies too is log 16's inference. -/
def Obligations.PlaybackStoresNotifyTheEngine : Prop :=
  ∀ (v : Word) (s : State),
    Completes (.wrPlay0Lo v) s .nothing
        ((s.setPlay { s.play with play0 := s.play.play0.extractLsb' 16 2 ++ v }).setCalls
          (.playNotify .play0 ((s.play.play0.extractLsb' 16 2 ++ v : KAddr).setWidth 32) :: s.calls)) ∧
      Completes (.wrPlay0Hi v) s .nothing
        ((s.setPlay { s.play with play0 := v.extractLsb' 0 2 ++ s.play.play0.extractLsb' 0 16 }).setCalls
          (.playNotify .play0 ((v.extractLsb' 0 2 ++ s.play.play0.extractLsb' 0 16 : KAddr).setWidth 32) :: s.calls)) ∧
      Completes (.wrEnd0Lo v) s .nothing
        ((s.setPlay { s.play with end0 := s.play.end0.extractLsb' 16 2 ++ v }).setCalls
          (.playNotify .end0 ((s.play.end0.extractLsb' 16 2 ++ v : KAddr).setWidth 32) :: s.calls)) ∧
      Completes (.wrEnd0Hi v) s .nothing
        ((s.setPlay { s.play with end0 := v.extractLsb' 0 2 ++ s.play.end0.extractLsb' 0 16 }).setCalls
          (.playNotify .end0 ((v.extractLsb' 0 2 ++ s.play.end0.extractLsb' 0 16 : KAddr).setWidth 32) :: s.calls)) ∧
      Completes (.wrInter0Lo v) s .nothing
        ((s.setPlay { s.play with inter0 := s.play.inter0.extractLsb' 16 2 ++ v }).setCalls
          (.playNotify .inter0 ((s.play.inter0.extractLsb' 16 2 ++ v : KAddr).setWidth 32) :: s.calls)) ∧
      Completes (.wrInter0Hi v) s .nothing
        ((s.setPlay { s.play with inter0 := v.extractLsb' 0 2 ++ s.play.inter0.extractLsb' 0 16 }).setCalls
          (.playNotify .inter0 ((v.extractLsb' 0 2 ++ s.play.inter0.extractLsb' 0 16 : KAddr).setWidth 32) :: s.calls)) ∧
      Completes (.wrPlay1Lo v) s .nothing
        ((s.setPlay { s.play with play1 := s.play.play1.extractLsb' 16 2 ++ v }).setCalls
          (.playNotify .play1 ((s.play.play1.extractLsb' 16 2 ++ v : KAddr).setWidth 32) :: s.calls)) ∧
      Completes (.wrPlay1Hi v) s .nothing
        ((s.setPlay { s.play with play1 := v.extractLsb' 0 2 ++ s.play.play1.extractLsb' 0 16 }).setCalls
          (.playNotify .play1 ((v.extractLsb' 0 2 ++ s.play.play1.extractLsb' 0 16 : KAddr).setWidth 32) :: s.calls)) ∧
      Completes (.wrEnd1Lo v) s .nothing
        ((s.setPlay { s.play with end1 := s.play.end1.extractLsb' 16 2 ++ v }).setCalls
          (.playNotify .end1 ((s.play.end1.extractLsb' 16 2 ++ v : KAddr).setWidth 32) :: s.calls)) ∧
      Completes (.wrEnd1Hi v) s .nothing
        ((s.setPlay { s.play with end1 := v.extractLsb' 0 2 ++ s.play.end1.extractLsb' 0 16 }).setCalls
          (.playNotify .end1 ((v.extractLsb' 0 2 ++ s.play.end1.extractLsb' 0 16 : KAddr).setWidth 32) :: s.calls)) ∧
      Completes (.wrInter1Lo v) s .nothing
        ((s.setPlay { s.play with inter1 := s.play.inter1.extractLsb' 16 2 ++ v }).setCalls
          (.playNotify .inter1 ((s.play.inter1.extractLsb' 16 2 ++ v : KAddr).setWidth 32) :: s.calls)) ∧
      Completes (.wrInter1Hi v) s .nothing
        ((s.setPlay { s.play with inter1 := v.extractLsb' 0 2 ++ s.play.inter1.extractLsb' 0 16 }).setCalls
          (.playNotify .inter1 ((v.extractLsb' 0 2 ++ s.play.inter1.extractLsb' 0 16 : KAddr).setWidth 32) :: s.calls)) ∧
      Completes (.wrAdctlLo v) s .nothing
        ((s.setPlay { s.play with ctl := v &&& 0x003F#16 }).setCalls
          (.playNotify .adctl ((v &&& 0x003F#16).setWidth 32) :: s.calls)) ∧
      Completes (.wrAdctlHi v) s .nothing
        ((s.setPlay { s.play with ctl := s.play.ctl &&& 0x003F#16 }).setCalls
          (.playNotify .adctl ((s.play.ctl &&& 0x003F#16).setWidth 32) :: s.calls))

/-- 41_memory_dma_registers.md R260 for the registers of 16 bits or fewer: R282, R310, R313, R315 to R320, R325, R327,
R328. -/
def Obligations.NarrowRegisterStoresKeepTheWritableBits : Prop :=
  ∀ (v : Word) (s : State),
    Completes (.wrDmactlLo v) s .nothing (s.setDma { s.dma with ctl := v &&& 0x0001#16 }) ∧
      Completes (.wrMpaddrLo v) s .nothing (s.setMp { s.mp with addr := v.extractLsb' 0 4 }) ∧
      Completes (.wrMpctlLo v) s .nothing (s.setMp { s.mp with ctl := v &&& 0x0001#16 }) ∧
      Completes (.wrBgendlessLo v) s .nothing (s.setBg { s.bg with endless := v.extractLsb' 0 4 }) ∧
      Completes (.wrBgmodeLo v) s .nothing (s.setBg { s.bg with mode := v }) ∧
      Completes (.wrBat0Lo v) s .nothing (s.setBg { s.bg with bat0 := v.extractLsb' 0 9 }) ∧
      Completes (.wrBat1Lo v) s .nothing (s.setBg { s.bg with bat1 := v.extractLsb' 0 9 }) ∧
      Completes (.wrBat2Lo v) s .nothing (s.setBg { s.bg with bat2 := v.extractLsb' 0 9 }) ∧
      Completes (.wrBat3Lo v) s .nothing (s.setBg { s.bg with bat3 := v.extractLsb' 0 9 }) ∧
      Completes (.wrCg0Lo v) s .nothing (s.setBg { s.bg with cg0 := v.extractLsb' 0 9 }) ∧
      Completes (.wrCg1Lo v) s .nothing (s.setBg { s.bg with cg1 := v.extractLsb' 0 9 }) ∧
      Completes (.wrCg2Lo v) s .nothing (s.setBg { s.bg with cg2 := v.extractLsb' 0 9 }) ∧
      Completes (.wrCg3Lo v) s .nothing (s.setBg { s.bg with cg3 := v.extractLsb' 0 9 }) ∧
      Completes (.wrSubbat0Lo v) s .nothing (s.setBg { s.bg with subbat0 := v.extractLsb' 0 9 }) ∧
      Completes (.wrSubbat1Lo v) s .nothing (s.setBg { s.bg with subbat1 := v.extractLsb' 0 9 }) ∧
      Completes (.wrSubbat2Lo v) s .nothing (s.setBg { s.bg with subbat2 := v.extractLsb' 0 9 }) ∧
      Completes (.wrSubbat3Lo v) s .nothing (s.setBg { s.bg with subbat3 := v.extractLsb' 0 9 }) ∧
      Completes (.wrSubcg0Lo v) s .nothing (s.setBg { s.bg with subcg0 := v.extractLsb' 0 9 }) ∧
      Completes (.wrSubcg1Lo v) s .nothing (s.setBg { s.bg with subcg1 := v.extractLsb' 0 9 }) ∧
      Completes (.wrSubcg2Lo v) s .nothing (s.setBg { s.bg with subcg2 := v.extractLsb' 0 9 }) ∧
      Completes (.wrSubcg3Lo v) s .nothing (s.setBg { s.bg with subcg3 := v.extractLsb' 0 9 }) ∧
      Completes (.wrScrx0Lo v) s .nothing (s.setBg { s.bg with scrx0 := v.extractLsb' 0 11 }) ∧
      Completes (.wrScry0Lo v) s .nothing (s.setBg { s.bg with scry0 := v.extractLsb' 0 11 }) ∧
      Completes (.wrScrx1Lo v) s .nothing (s.setBg { s.bg with scrx1 := v.extractLsb' 0 10 }) ∧
      Completes (.wrScry1Lo v) s .nothing (s.setBg { s.bg with scry1 := v.extractLsb' 0 10 }) ∧
      Completes (.wrScrx2Lo v) s .nothing (s.setBg { s.bg with scrx2 := v.extractLsb' 0 10 }) ∧
      Completes (.wrScry2Lo v) s .nothing (s.setBg { s.bg with scry2 := v.extractLsb' 0 10 }) ∧
      Completes (.wrScrx3Lo v) s .nothing (s.setBg { s.bg with scrx3 := v.extractLsb' 0 10 }) ∧
      Completes (.wrScry3Lo v) s .nothing (s.setBg { s.bg with scry3 := v.extractLsb' 0 10 }) ∧
      Completes (.wrAffaLo v) s .nothing (s.setBg { s.bg with affa := v }) ∧
      Completes (.wrAffbLo v) s .nothing (s.setBg { s.bg with affb := v }) ∧
      Completes (.wrAffcLo v) s .nothing (s.setBg { s.bg with affc := v }) ∧
      Completes (.wrAffdLo v) s .nothing (s.setBg { s.bg with affd := v }) ∧
      Completes (.wrCtrxLo v) s .nothing (s.setBg { s.bg with ctrx := v }) ∧
      Completes (.wrCtryLo v) s .nothing (s.setBg { s.bg with ctry := v }) ∧
      Completes (.wrBgsize0Lo v) s .nothing (s.setBg { s.bg with bgsize0 := v.extractLsb' 0 8 }) ∧
      Completes (.wrBgsize1Lo v) s .nothing (s.setBg { s.bg with bgsize1 := v.extractLsb' 0 8 }) ∧
      Completes (.wrBgsize2Lo v) s .nothing (s.setBg { s.bg with bgsize2 := v.extractLsb' 0 8 }) ∧
      Completes (.wrBgsize3Lo v) s .nothing (s.setBg { s.bg with bgsize3 := v.extractLsb' 0 8 }) ∧
      Completes (.wrOvlctlLo v) s .nothing (s.setOvl { s.ovl with ctl := v &&& 0x0003#16 }) ∧
      Completes (.wrOvlblocksLo v) s .nothing (s.setOvl { s.ovl with blocks := v }) ∧
      Completes (.wrRirqlineLo v) s .nothing (s.setOvl { s.ovl with rirqLine := v.extractLsb' 0 9 })

/-- 41_memory_dma_registers.md R260, in states whose registers hold only writable bits (10_state.md R44). -/
def Obligations.NarrowRegisterHighHalfWritesChangeNothing : Prop :=
  ∀ (v : Word) (s : State), MasksHold s →
    NoEffect (.wrDmactlHi v) s ∧ NoEffect (.wrMpaddrHi v) s ∧ NoEffect (.wrMpctlHi v) s ∧
      NoEffect (.wrBgendlessHi v) s ∧ NoEffect (.wrBgmodeHi v) s ∧ NoEffect (.wrBat0Hi v) s ∧
      NoEffect (.wrBat1Hi v) s ∧ NoEffect (.wrBat2Hi v) s ∧ NoEffect (.wrBat3Hi v) s ∧
      NoEffect (.wrCg0Hi v) s ∧ NoEffect (.wrCg1Hi v) s ∧ NoEffect (.wrCg2Hi v) s ∧
      NoEffect (.wrCg3Hi v) s ∧ NoEffect (.wrSubbat0Hi v) s ∧ NoEffect (.wrSubbat1Hi v) s ∧
      NoEffect (.wrSubbat2Hi v) s ∧ NoEffect (.wrSubbat3Hi v) s ∧ NoEffect (.wrSubcg0Hi v) s ∧
      NoEffect (.wrSubcg1Hi v) s ∧ NoEffect (.wrSubcg2Hi v) s ∧ NoEffect (.wrSubcg3Hi v) s ∧
      NoEffect (.wrScrx0Hi v) s ∧ NoEffect (.wrScry0Hi v) s ∧ NoEffect (.wrScrx1Hi v) s ∧
      NoEffect (.wrScry1Hi v) s ∧ NoEffect (.wrScrx2Hi v) s ∧ NoEffect (.wrScry2Hi v) s ∧
      NoEffect (.wrScrx3Hi v) s ∧ NoEffect (.wrScry3Hi v) s ∧ NoEffect (.wrAffaHi v) s ∧
      NoEffect (.wrAffbHi v) s ∧ NoEffect (.wrAffcHi v) s ∧ NoEffect (.wrAffdHi v) s ∧
      NoEffect (.wrCtrxHi v) s ∧ NoEffect (.wrCtryHi v) s ∧ NoEffect (.wrBgsize0Hi v) s ∧
      NoEffect (.wrBgsize1Hi v) s ∧ NoEffect (.wrBgsize2Hi v) s ∧ NoEffect (.wrBgsize3Hi v) s ∧
      NoEffect (.wrOvlctlHi v) s ∧ NoEffect (.wrOvlblocksHi v) s ∧ NoEffect (.wrRirqlineHi v) s

/-- 30_encoding.md R145; 41_memory_dma_registers.md R260. -/
def Obligations.MemoryRegisterLoadsReturnTheirHalves : Prop :=
  ∀ s : State,
    JustReads .rdDmaaddrLo s (s.dma.addr.extractLsb' 0 16) ∧ JustReads .rdDmaaddrHi s ((s.dma.addr.extractLsb' 16 2).setWidth 16) ∧
      JustReads .rdDmasizeLo s (s.dma.size.extractLsb' 0 16) ∧ JustReads .rdDmasizeHi s ((s.dma.size.extractLsb' 16 8).setWidth 16) ∧
      JustReads .rdDmactlLo s s.dma.ctl ∧ JustReads .rdDmactlHi s 0 ∧
      JustReads .rdKramraLo s (s.kctl.ra.extractLsb' 0 16) ∧ JustReads .rdKramraHi s ((s.kctl.ra.extractLsb' 16 12).setWidth 16) ∧
      JustReads .rdKramwaLo s (s.kctl.wa.extractLsb' 0 16) ∧ JustReads .rdKramwaHi s ((s.kctl.wa.extractLsb' 16 12).setWidth 16) ∧
      JustReads .rdPageLo s (s.kctl.page.extractLsb' 0 16) ∧ JustReads .rdPageHi s (s.kctl.page.extractLsb' 16 16) ∧
      JustReads .rdMpaddrLo s (s.mp.addr.setWidth 16) ∧ JustReads .rdMpaddrHi s 0 ∧
      JustReads .rdMpctlLo s s.mp.ctl ∧ JustReads .rdMpctlHi s 0 ∧
      JustReads .rdBgendlessLo s (s.bg.endless.setWidth 16) ∧ JustReads .rdBgendlessHi s 0 ∧
      JustReads .rdBgmodeLo s s.bg.mode ∧ JustReads .rdBgmodeHi s 0 ∧
      JustReads .rdBat0Lo s (s.bg.bat0.setWidth 16) ∧ JustReads .rdBat0Hi s 0 ∧
      JustReads .rdBat1Lo s (s.bg.bat1.setWidth 16) ∧ JustReads .rdBat1Hi s 0 ∧
      JustReads .rdBat2Lo s (s.bg.bat2.setWidth 16) ∧ JustReads .rdBat2Hi s 0 ∧
      JustReads .rdBat3Lo s (s.bg.bat3.setWidth 16) ∧ JustReads .rdBat3Hi s 0 ∧
      JustReads .rdCg0Lo s (s.bg.cg0.setWidth 16) ∧ JustReads .rdCg0Hi s 0 ∧
      JustReads .rdCg1Lo s (s.bg.cg1.setWidth 16) ∧ JustReads .rdCg1Hi s 0 ∧
      JustReads .rdCg2Lo s (s.bg.cg2.setWidth 16) ∧ JustReads .rdCg2Hi s 0 ∧
      JustReads .rdCg3Lo s (s.bg.cg3.setWidth 16) ∧ JustReads .rdCg3Hi s 0 ∧
      JustReads .rdSubbat0Lo s (s.bg.subbat0.setWidth 16) ∧ JustReads .rdSubbat0Hi s 0 ∧
      JustReads .rdSubbat1Lo s (s.bg.subbat1.setWidth 16) ∧ JustReads .rdSubbat1Hi s 0 ∧
      JustReads .rdSubbat2Lo s (s.bg.subbat2.setWidth 16) ∧ JustReads .rdSubbat2Hi s 0 ∧
      JustReads .rdSubbat3Lo s (s.bg.subbat3.setWidth 16) ∧ JustReads .rdSubbat3Hi s 0 ∧
      JustReads .rdSubcg0Lo s (s.bg.subcg0.setWidth 16) ∧ JustReads .rdSubcg0Hi s 0 ∧
      JustReads .rdSubcg1Lo s (s.bg.subcg1.setWidth 16) ∧ JustReads .rdSubcg1Hi s 0 ∧
      JustReads .rdSubcg2Lo s (s.bg.subcg2.setWidth 16) ∧ JustReads .rdSubcg2Hi s 0 ∧
      JustReads .rdSubcg3Lo s (s.bg.subcg3.setWidth 16) ∧ JustReads .rdSubcg3Hi s 0 ∧
      JustReads .rdScrx0Lo s (s.bg.scrx0.setWidth 16) ∧ JustReads .rdScrx0Hi s 0 ∧
      JustReads .rdScry0Lo s (s.bg.scry0.setWidth 16) ∧ JustReads .rdScry0Hi s 0 ∧
      JustReads .rdScrx1Lo s (s.bg.scrx1.setWidth 16) ∧ JustReads .rdScrx1Hi s 0 ∧
      JustReads .rdScry1Lo s (s.bg.scry1.setWidth 16) ∧ JustReads .rdScry1Hi s 0 ∧
      JustReads .rdScrx2Lo s (s.bg.scrx2.setWidth 16) ∧ JustReads .rdScrx2Hi s 0 ∧
      JustReads .rdScry2Lo s (s.bg.scry2.setWidth 16) ∧ JustReads .rdScry2Hi s 0 ∧
      JustReads .rdScrx3Lo s (s.bg.scrx3.setWidth 16) ∧ JustReads .rdScrx3Hi s 0 ∧
      JustReads .rdScry3Lo s (s.bg.scry3.setWidth 16) ∧ JustReads .rdScry3Hi s 0 ∧
      JustReads .rdAffaLo s s.bg.affa ∧ JustReads .rdAffaHi s 0 ∧
      JustReads .rdAffbLo s s.bg.affb ∧ JustReads .rdAffbHi s 0 ∧
      JustReads .rdAffcLo s s.bg.affc ∧ JustReads .rdAffcHi s 0 ∧
      JustReads .rdAffdLo s s.bg.affd ∧ JustReads .rdAffdHi s 0 ∧
      JustReads .rdCtrxLo s s.bg.ctrx ∧ JustReads .rdCtrxHi s 0 ∧
      JustReads .rdCtryLo s s.bg.ctry ∧ JustReads .rdCtryHi s 0 ∧
      JustReads .rdBgsize0Lo s (s.bg.bgsize0.setWidth 16) ∧ JustReads .rdBgsize0Hi s 0 ∧
      JustReads .rdBgsize1Lo s (s.bg.bgsize1.setWidth 16) ∧ JustReads .rdBgsize1Hi s 0 ∧
      JustReads .rdBgsize2Lo s (s.bg.bgsize2.setWidth 16) ∧ JustReads .rdBgsize2Hi s 0 ∧
      JustReads .rdBgsize3Lo s (s.bg.bgsize3.setWidth 16) ∧ JustReads .rdBgsize3Hi s 0 ∧
      JustReads .rdOvlctlLo s s.ovl.ctl ∧ JustReads .rdOvlctlHi s 0 ∧
      JustReads .rdOvladdrLo s (s.ovl.addr.extractLsb' 0 16) ∧ JustReads .rdOvladdrHi s ((s.ovl.addr.extractLsb' 16 2).setWidth 16) ∧
      JustReads .rdOvlblocksLo s s.ovl.blocks ∧ JustReads .rdOvlblocksHi s 0 ∧
      JustReads .rdRirqlineLo s (s.ovl.rirqLine.setWidth 16) ∧ JustReads .rdRirqlineHi s 0 ∧
      JustReads .rdAdctlLo s s.play.ctl ∧ JustReads .rdAdctlHi s 0 ∧
      JustReads .rdPlay0Lo s (s.play.play0.extractLsb' 0 16) ∧ JustReads .rdPlay0Hi s ((s.play.play0.extractLsb' 16 2).setWidth 16) ∧
      JustReads .rdEnd0Lo s (s.play.end0.extractLsb' 0 16) ∧ JustReads .rdEnd0Hi s ((s.play.end0.extractLsb' 16 2).setWidth 16) ∧
      JustReads .rdInter0Lo s (s.play.inter0.extractLsb' 0 16) ∧ JustReads .rdInter0Hi s ((s.play.inter0.extractLsb' 16 2).setWidth 16) ∧
      JustReads .rdPlay1Lo s (s.play.play1.extractLsb' 0 16) ∧ JustReads .rdPlay1Hi s ((s.play.play1.extractLsb' 16 2).setWidth 16) ∧
      JustReads .rdEnd1Lo s (s.play.end1.extractLsb' 0 16) ∧ JustReads .rdEnd1Hi s ((s.play.end1.extractLsb' 16 2).setWidth 16) ∧
      JustReads .rdInter1Lo s (s.play.inter1.extractLsb' 0 16) ∧ JustReads .rdInter1Hi s ((s.play.inter1.extractLsb' 16 2).setWidth 16)

/-- 41_memory_dma_registers.md R296; 20_memory.md R109. The byte addresses of a word are the model's (log 6). -/
def Obligations.KramDataWriteStoresOneWord : Prop :=
  ∀ (v : Word) (s : State), s.kram.wf = true →
    ∃ m : Memory,
      Completes (.wrKramdataLo v) s .nothing
          ((s.setKram m).setKctl
            { s.kctl with
              wa := s.kctl.wa.extractLsb' 18 10 ++
                (s.kctl.wa.extractLsb' 0 18 + (s.kctl.wa.extractLsb' 18 10).signExtend 18) }) ∧
        m.wf = true ∧
        memRead m (s.kctl.page.getLsbD 4) (s.kctl.wa.extractLsb' 0 18) = v ∧
        ∀ a : Nat, a ≠ kramByteAddr (s.kctl.page.getLsbD 4) (s.kctl.wa.extractLsb' 0 18) →
          a ≠ kramByteAddr (s.kctl.page.getLsbD 4) (s.kctl.wa.extractLsb' 0 18) + 1 →
            m.readByte a = s.kram.readByte a

/-- 41_memory_dma_registers.md R297. -/
def Obligations.KramDataReadReturnsOneWord : Prop :=
  ∀ s : State,
    Completes .rdKramdataLo s (.word (memRead s.kram (s.kctl.page.getLsbD 4) (s.kctl.ra.extractLsb' 0 18)))
      (s.setKctl
        { s.kctl with
          ra := s.kctl.ra.extractLsb' 18 10 ++
            (s.kctl.ra.extractLsb' 0 18 + (s.kctl.ra.extractLsb' 18 10).signExtend 18) })

/-- 41_memory_dma_registers.md R311, R312. -/
def Obligations.MicroprogramTableAccesses : Prop :=
  ∀ (v : Word) (s : State),
    (∃ p : Vector Word 16,
      Completes (.wrMpdataLo v) s .nothing (s.setMp { s.mp with prog := p, addr := s.mp.addr + 1 }) ∧
        ∀ j : BitVec 4, mprogGet p j = if j = s.mp.addr then v else mprogGet s.mp.prog j) ∧
      JustReads .rdMpdataLo s (mprogGet s.mp.prog s.mp.addr)

/-- 46_host_operations.md R541, for both channels. -/
def Obligations.PlayFetchTakesTheNextSample : Prop :=
  ∀ s : State,
    (s.play.ctl.getLsbD 4 = false → Completes (.playfetch .ch0) s (.word 0) s) ∧
      (s.play.ctl.getLsbD 5 = false → Completes (.playfetch .ch1) s (.word 0) s) ∧
      (s.play.ctl.getLsbD 4 = true →
        Completes (.playfetch .ch0) s (.word (memRead s.kram (s.kctl.page.getLsbD 24) s.play.play0))
          (s.setPlay
            { s.play with
              flags := s.play.flags ||| (if s.play.play0 = s.play.end0 then 0b0001#4 else 0#4) |||
                (if s.play.play0 = s.play.inter0 then 0b0010#4 else 0#4)
              play0 := s.play.play0 + 1 })) ∧
      (s.play.ctl.getLsbD 5 = true →
        Completes (.playfetch .ch1) s (.word (memRead s.kram (s.kctl.page.getLsbD 24) s.play.play1))
          (s.setPlay
            { s.play with
              flags := s.play.flags ||| (if s.play.play1 = s.play.end1 then 0b0100#4 else 0#4) |||
                (if s.play.play1 = s.play.inter1 then 0b1000#4 else 0#4)
              play1 := s.play.play1 + 1 }))

/-- 46_host_operations.md R532; 42_timing_scheduler.md R360. What RUN cannot write is listed (R47's registers, R501).
-/
def Obligations.RunAdvancesTimeByItsBudget : Prop :=
  (∀ s : State, Completes (.run 0) s .nothing s) ∧
    ∀ (n : Nat) (s : State), ∃ t,
      exec (.run n) s = .next t ∧ t.timing.now = s.timing.now + n ∧ t.car = s.car ∧ t.kar = s.kar ∧ t.pic = s.pic ∧
        t.palette = s.palette ∧ t.pcache = s.pcache ∧ t.play = s.play ∧ t.mp = s.mp ∧ t.bg = s.bg ∧ t.kctl = s.kctl ∧
        t.scsi.sout = s.scsi.sout ∧ t.scsi.scmd = s.scsi.scmd ∧ t.scsi.smode = s.scsi.smode ∧
        t.scsi.sphase = s.scsi.sphase ∧ t.dma.ctl = s.dma.ctl ∧ t.ovl.rirqLine = s.ovl.rirqLine ∧
        t.cfg = s.cfg ∧ t.requests = s.requests ∧ t.reply = .nothing

/-- 42_timing_scheduler.md R360, R361: one chunk of the least of the three counters and the budget, then the rest. -/
def Obligations.RunIsTheChunkLoop : Prop :=
  ∀ (n : Nat) (s : State), 1 ≤ n → 1 ≤ s.timing.hcnt → 1 ≤ s.timing.hscnt → s.extcnt ≠ some 0 →
    let c := min (min s.timing.hcnt s.timing.hscnt) (match s.extcnt with | some e => min e n | none => n)
    let a := tileAdvance c s
    let b :=
      (a.setTiming
        { a.timing with
          hcnt := a.timing.hcnt - c
          hscnt := a.timing.hscnt - c
          now := a.timing.now + c }).setExtcnt (a.extcnt.map (· - c))
    1 ≤ c ∧ c ≤ n ∧ runClocks n s = runClocks (n - c) (service b)

/-- 70_reset_and_hazards.md R590, R591, R592; 46_host_operations.md R538. Parameters within their ranges (log 3);
script, parameters and requests, and what goes to the bus, are the model's (log 23); EXTCNT is the bus's answer (log
4). -/
def Obligations.ResetLeavesTheResetState : Prop :=
  ∀ (t : Nat) (s : State), ∃ u,
    exec (.reset t) s = .next u ∧ u.car = 0 ∧ u.kar = 0 ∧ u.pic = PicRegs.zero ∧
      (∀ i, palGet u.palette.pal i = 0) ∧ u.palette.cur = 0 ∧ u.palette.latch = 0 ∧
      (∀ j, pcacheGet u.pcache j = 0) ∧ (∀ j, pcacheGet u.rcd.pcache j = 0) ∧ (∀ l, rank u.rcd.rank l = 0) ∧
      u.rc.pic = PicRegs.zero ∧ u.rc.line = 0 ∧ u.scsi = Scsi.zero ∧ u.dma = Dma.zero ∧ u.play = Playback.zero ∧
      u.ovl = Overlay.zero ∧ u.pend = Pending.zero ∧ u.mp.addr = 0 ∧ u.mp.ctl = 0 ∧ (∀ i, mprogGet u.mp.prog i = 0) ∧
      u.bg = BgRegs.zero ∧ u.kctl.ra = 0 ∧ u.kctl.wa = 0 ∧ u.kctl.page = 0 ∧ u.kram = s.kram ∧
      u.timing.raster = 0 ∧ u.timing.odd = false ∧ u.timing.divrem = 0 ∧ u.timing.hphase = .active ∧
      u.timing.hcnt = max 1 s.cfg.tActive.normal ∧ u.timing.hscnt = max 1 s.cfg.hsInterval ∧ u.timing.now = t ∧
      (∃ next : Option Nat, Answered s.script.nextEvents [next] ∧ u.extcnt = next.map (max 1)) ∧
      u.line =
        { tbuf := List.replicate s.cfg.wMax .transparent
          tpos := 0
          bgrows :=
            { bg0 := List.replicate s.cfg.wMax .transparent
              bg1 := List.replicate s.cfg.wMax .transparent
              bg2 := List.replicate s.cfg.wMax .transparent
              bg3 := List.replicate s.cfg.wMax .transparent }
          obuf := List.replicate s.cfg.wMax .transparent } ∧
      u.out = { rows := [], width := s.cfg.width.normal, height := s.cfg.visibleLines, interlace := false, frames := 0 } ∧
      u.lastIrq = false ∧ u.cfg = s.cfg ∧ u.requests = s.requests ∧
      u.script = { s.script with nextEvents := s.script.nextEvents.drop 1 } ∧
      u.calls =
        [.setIrq false, .busSet .data false, .busSet .ack false, .busSet .atn false, .busSet .sel false,
          .busSet .bsy false, .busSet .rst false, .busNextEvent] ++ s.calls

/-- 46_host_operations.md R533, R538; the snapshot is a typed record (log 12). -/
def Obligations.SaveReturnsEveryStoredField : Prop :=
  ∀ s : State, Completes .save s (.snapshot s.toSnapshot) s

/-- 46_host_operations.md R533, R534. Durations and VIS_COUNT within their ranges (log 3); the bus outputs forwarded
are log 11's, the draw before them log 26's; rows, cells and RC in the form State needs are log 12's and log 13's;
EXTCNT is the bus's answer (log 4). -/
def Obligations.RestoreMasksClampsAndRederives : Prop :=
  ∀ (x : Snapshot) (s : State), ∃ t,
    let d := x.pic.pmode.getLsbD 3
    let n : Nat := if x.pic.pmode.getLsbD 0 then 263 else 262
    exec (.restore x) s = .next t ∧
      t.car = x.car ∧ t.kar = x.kar ∧
      t.pic =
        { x.pic with
          pmode := x.pic.pmode &&& 0x7F0B#16
          palofs3 := x.pic.palofs3 &&& 0x00FF#16
          prio1 := x.pic.prio1 &&& 0x0FFF#16 } ∧
      t.palette = x.palette ∧
      (∀ i : BitVec 9, pcacheGet t.pcache (i.setWidth 10) = expand (palGet x.palette.pal i) ∧
        pcacheGet t.pcache (i.setWidth 10 + 512#10) = expand (palGet x.palette.pal i)) ∧
      t.rcd.pcache = t.pcache ∧ t.rcd.rank = resolveRanks t.rc.pic ∧
      t.rc.pic =
        { x.rc.pic with
          pmode := x.rc.pic.pmode &&& 0x7F0B#16
          palofs3 := x.rc.pic.palofs3 &&& 0x00FF#16
          prio1 := x.rc.pic.prio1 &&& 0x0FFF#16 } ∧
      t.timing.raster.toNat = min x.timing.raster.toNat (n - 1) ∧ t.rc.line.toNat = min x.rc.line.toNat (n - 1) ∧
      t.timing.hphase = x.timing.hphase ∧ t.timing.odd = x.timing.odd ∧ t.timing.now = x.timing.now ∧
      t.timing.hcnt =
        min (max x.timing.hcnt 1) (s.cfg.duration x.timing.hphase d (x.pic.pmode.getLsbD 0)) ∧
      t.timing.hscnt = min (max x.timing.hscnt 1) (s.cfg.hsEvery) ∧
      t.timing.divrem = x.timing.divrem % s.cfg.divOf d ∧ t.line.tpos = min x.line.tpos s.cfg.wMax ∧
      t.scsi =
        { x.scsi with
          scmd := x.scsi.scmd &&& 0x9F#8
          smode := x.scsi.smode &&& 0x02#8
          sphase := x.scsi.sphase &&& 0x07#8 } ∧
      t.dma = { x.dma with ctl := x.dma.ctl &&& 0x0001#16 } ∧
      t.play = { x.play with ctl := x.play.ctl &&& 0x003F#16 } ∧
      t.ovl = { x.ovl with ctl := x.ovl.ctl &&& 0x0003#16 } ∧ t.pend = x.pend ∧
      t.mp = { x.mp with ctl := x.mp.ctl &&& 0x0001#16 } ∧ t.bg = x.bg ∧
      t.kctl = { x.kctl with page := x.kctl.page &&& 0x01010011#32 } ∧ t.kram.wf = true ∧
      (x.kram.wf = true → t.kram = x.kram) ∧
      BuffersProper t ∧
      t.line.tbuf = (x.line.tbuf ++ List.replicate s.cfg.wMax TileEntry.transparent).take s.cfg.wMax ∧
      (RowProper s.cfg x.line.obuf → t.line.obuf = x.line.obuf) ∧
      (RowProper s.cfg x.line.bgrows.bg0 → t.line.bgrows.bg0 = x.line.bgrows.bg0) ∧
      (RowProper s.cfg x.line.bgrows.bg1 → t.line.bgrows.bg1 = x.line.bgrows.bg1) ∧
      (RowProper s.cfg x.line.bgrows.bg2 → t.line.bgrows.bg2 = x.line.bgrows.bg2) ∧
      (RowProper s.cfg x.line.bgrows.bg3 → t.line.bgrows.bg3 = x.line.bgrows.bg3) ∧
      RowsSorted t ∧
      (∀ k : Nat, t.out.rows.lookup k = if k < s.cfg.visibleLines then x.out.rows.lookup k else none) ∧
      t.out.width = x.out.width ∧ t.out.height = x.out.height ∧ t.out.interlace = x.out.interlace ∧
      t.out.frames = x.out.frames ∧
      (∃ next : Option Nat, Answered s.script.nextEvents [next] ∧ t.extcnt = next.map (max 1)) ∧
      t.script = { s.script with nextEvents := s.script.nextEvents.drop 1 } ∧ t.cfg = s.cfg ∧ t.requests = s.requests ∧
      t.lastIrq = irqLevel t ∧
      t.calls =
        (if irqLevel t = s.lastIrq then [] else [.setIrq (irqLevel t)]) ++
          (outputChanges s.scsi t.scsi).reverse ++ .busNextEvent :: s.calls

/-- 46_host_operations.md R535, between requests. The premises on the counters are the model's choice (log 25): R535
speaks of any point, R534 clamps a counter beyond the present mode's range. -/
def Obligations.SaveThenRestoreIsLossless : Prop :=
  ∀ (s : State), MasksHold s → PaletteMirrored s → RanksResolved s → KramCanonical s → BuffersProper s → RowsSorted s →
    s.timing.raster.toNat < lineCount s.pic.pmode → s.rc.line.toNat < lineCount s.pic.pmode → 1 ≤ s.timing.hcnt →
    s.timing.hcnt ≤ s.cfg.duration s.timing.hphase (dotClock s.pic.pmode) (line263 s.pic.pmode) →
    1 ≤ s.timing.hscnt → s.timing.hscnt ≤ s.cfg.hsEvery → s.timing.divrem < s.cfg.divOf (dotClock s.pic.pmode) →
    s.line.tpos ≤ s.cfg.wMax →
      ∃ (x : Snapshot) (t u : State), exec .save s = .next t ∧ t.reply = .snapshot x ∧ exec (.restore x) t = .next u ∧
        u.toSnapshot = s.toSnapshot ∧ u.pcache = s.pcache ∧ u.rcd.rank = s.rcd.rank ∧
        (s.rcd.pcache = s.pcache → u.rcd = s.rcd)

/-- 42_timing_scheduler.md R364, R365, R366; the height reported is VIS_COUNT within its range (log 3). -/
def Obligations.LineStepCountsInterruptsAndEndsTheFrame : Prop :=
  ∀ s : State,
    let n : Nat := if s.pic.pmode.getLsbD 0 then 263 else 262
    let r : BitVec 9 := if n ≤ s.timing.raster.toNat + 1 then 0 else s.timing.raster + 1
    let t := lineStep s
    t.timing.raster = r ∧
      t.pend = { s.pend with raster := s.pend.raster || (r == s.ovl.rirqLine && s.ovl.ctl.getLsbD 1) } ∧
      (r = 0 →
        t.out.frames = s.out.frames + 1 ∧ t.timing.odd = (s.pic.pmode.getLsbD 1 && !s.timing.odd) ∧
          t.out.interlace = s.pic.pmode.getLsbD 1 ∧ t.out.height = s.cfg.visibleLines ∧ t.out.rows = s.out.rows ∧
          t.out.width = s.out.width ∧ t.calls = .tileVsync .tile1 :: .tileVsync .tile0 :: s.calls) ∧
      (r ≠ 0 → t.out = s.out ∧ t.timing.odd = s.timing.odd ∧ t.calls = s.calls) ∧
      t.timing.hphase = s.timing.hphase ∧ t.timing.hcnt = s.timing.hcnt ∧ t.timing.hscnt = s.timing.hscnt ∧
      t.timing.now = s.timing.now ∧ t.timing.divrem = s.timing.divrem ∧ t.rc = s.rc ∧ t.rcd = s.rcd ∧ t.ovl = s.ovl ∧
      t.kram = s.kram ∧ t.scsi = s.scsi ∧ t.dma = s.dma ∧ t.line = s.line

/-- 42_timing_scheduler.md R363, R367, R378: four phase steps make one cycle, whatever RASTER_INC_AT, N cycles one
frame. -/
def Obligations.EveryFrameVisitsEveryLineOnce : Prop :=
  ∀ (s : State) (k : Nat), s.timing.hphase = .active → s.timing.raster = 0 →
    let n : Nat := if s.pic.pmode.getLsbD 0 then 263 else 262
    let t := phaseStep^[4 * k] s
    t.timing.hphase = .active ∧ t.timing.raster.toNat = k % n ∧ t.out.frames = s.out.frames + k / n ∧
      (phaseStep t).timing.hphase = .part1 ∧ (phaseStep^[2] t).timing.hphase = .part3 ∧
      (phaseStep^[3] t).timing.hphase = .part4 ∧ (phaseStep t).timing.raster = t.timing.raster ∧
      (phaseStep^[2] t).timing.raster = t.timing.raster

/-- 42_timing_scheduler.md R362, R363; durations below 1 read as 1 (log 3). -/
def Obligations.PhaseEntrySetsItsDuration : Prop :=
  ∀ s : State,
    let d := s.pic.pmode.getLsbD 3
    (s.timing.hphase = .active →
        (phaseStep s).timing.hphase = .part1 ∧ (phaseStep s).timing.hcnt = max 1 (s.cfg.tP1.get d)) ∧
      (s.timing.hphase = .part1 →
        (phaseStep s).timing.hphase = .part3 ∧
          (phaseStep s).timing.hcnt =
            max 1 (if s.pic.pmode.getLsbD 0 then s.cfg.tP3m1.get d else s.cfg.tP3m0.get d)) ∧
      (s.timing.hphase = .part3 →
        (phaseStep s).timing.hphase = .part4 ∧ (phaseStep s).timing.hcnt = max 1 (s.cfg.tP4.get d)) ∧
      (s.timing.hphase = .part4 →
        (phaseStep s).timing.hphase = .active ∧ (phaseStep s).timing.hcnt = max 1 (s.cfg.tActive.get d))

/-- 42_timing_scheduler.md R368, R373, R380; 70_reset_and_hazards.md R600; VIS_FIRST and VIS_COUNT within their ranges
(log 3). -/
def Obligations.RowsAreComposedAtTheEndOfActive : Prop :=
  ∀ s : State, s.timing.hphase = .active →
    let t := phaseStep s
    let l := s.rc.line.toNat
    t.calls = .tileHsync .tile1 :: .tileHsync .tile0 :: s.calls ∧ t.rc = s.rc ∧ t.rcd = s.rcd ∧ t.line = s.line ∧
      t.out.frames = s.out.frames ∧ t.out.height = s.out.height ∧ t.out.interlace = s.out.interlace ∧
      (s.cfg.firstVisible ≤ l ∧ l < s.cfg.firstVisible + s.cfg.visibleLines →
        t.out.rows.lookup (l - s.cfg.firstVisible) =
            some (composeLine s.cfg { pic := s.rc.pic, pcache := s.rcd.pcache, rank := s.rcd.rank } s.line) ∧
          (∀ k, k ≠ l - s.cfg.firstVisible → t.out.rows.lookup k = s.out.rows.lookup k) ∧
          t.out.width = s.cfg.widthOf (s.rc.pic.pmode.getLsbD 3)) ∧
      (¬(s.cfg.firstVisible ≤ l ∧ l < s.cfg.firstVisible + s.cfg.visibleLines) → t.out = s.out)

/-- 42_timing_scheduler.md R369, R370, R371, R372, R373; answers of renderer and decoder are free (log 4), fitted to
W_MAX (log 13); VIS_FIRST and VIS_COUNT within their ranges (log 3). -/
def Obligations.EnteringActiveLatchesThePicture : Prop :=
  ∀ s : State,
    let t := enterActive s
    let l := s.timing.raster.toNat
    let shown := s.cfg.firstVisible ≤ l ∧ l < s.cfg.firstVisible + s.cfg.visibleLines
    let blank : List PixEntry := List.replicate s.cfg.wMax .transparent
    let render : Call := .bgRender s.timing.raster { regs := s.bg, mpctl := s.mp.ctl, mprog := s.mp.prog } s.kram
    let fetch : Call := .ovlFetchRaster s.timing.raster ((s.pic.palofs3.extractLsb' 0 8).setWidth 10 <<< 1)
    let fetched := ∃ o : List PixEntry, Answered s.script.rasters [o] ∧ t.line.obuf = fitRow s.cfg o ∧
      (RowProper s.cfg o → t.line.obuf = o)
    t.rc = { pic := s.pic, line := s.timing.raster } ∧ t.rcd.pcache = s.pcache ∧ t.rcd.rank = resolveRanks s.pic ∧
      t.line.tpos = 0 ∧ t.line.tbuf = List.replicate s.cfg.wMax .transparent ∧
      (¬shown →
        t.line.obuf = blank ∧ t.line.bgrows = { bg0 := blank, bg1 := blank, bg2 := blank, bg3 := blank } ∧
          t.calls = s.calls ∧ t.ovl = s.ovl) ∧
      (shown →
        ∃ r : BgRows, Answered s.script.renders [r] ∧ t.line.bgrows = fitRows s.cfg r ∧
          (RowProper s.cfg r.bg0 → t.line.bgrows.bg0 = r.bg0) ∧ (RowProper s.cfg r.bg1 → t.line.bgrows.bg1 = r.bg1) ∧
          (RowProper s.cfg r.bg2 → t.line.bgrows.bg2 = r.bg2) ∧ (RowProper s.cfg r.bg3 → t.line.bgrows.bg3 = r.bg3)) ∧
      (shown → s.ovl.ctl.getLsbD 0 = false →
        t.line.obuf = blank ∧ t.ovl = s.ovl ∧ t.calls = render :: s.calls) ∧
      (shown → s.ovl.ctl.getLsbD 0 = true → s.ovl.blocks = 0 →
        fetched ∧ t.ovl = s.ovl ∧ t.calls = fetch :: render :: s.calls) ∧
      (shown → s.ovl.ctl.getLsbD 0 = true → s.ovl.blocks ≠ 0 →
        fetched ∧ t.calls = fetch :: .ovlDecodeBlock (s.kctl.page.getLsbD 16) s.ovl.addr :: render :: s.calls ∧
          ∃ w : Nat, Answered s.script.blocks [w] ∧
            t.ovl =
              { s.ovl with
                addr := s.ovl.addr + BitVec.ofNat 18 w
                blocks := s.ovl.blocks - 1
                ctl := if s.ovl.blocks = 1 then s.ovl.ctl &&& 0xFFFE#16 else s.ovl.ctl }) ∧
      t.timing = s.timing ∧ t.kram = s.kram ∧ t.scsi = s.scsi ∧ t.dma = s.dma ∧ t.pend = s.pend ∧ t.play = s.play ∧ t.out = s.out ∧ t.pic = s.pic ∧
      t.palette = s.palette ∧ t.pcache = s.pcache ∧ t.bg = s.bg ∧ t.mp = s.mp ∧ t.kctl = s.kctl ∧ t.extcnt = s.extcnt ∧ t.lastIrq = s.lastIrq ∧ t.cfg = s.cfg

/-- 45_dma_scsi_handshake.md R492; the levels are the bus's answers (log 4). -/
def Obligations.PhaseMismatchStopsTheTransfer : Prop :=
  (∀ s : State, (s.scsi.recvAct || s.scsi.sendAct) = true → ∃ msg cd io : Bool,
      Answered s.script.levels [msg, cd, io] ∧
        let t := phaseCheck true s
        let hit := msg = s.scsi.sphase.getLsbD 2 ∧ cd = s.scsi.sphase.getLsbD 1 ∧ io = s.scsi.sphase.getLsbD 0
        t.kram = s.kram ∧ t.calls = .busGet .io :: .busGet .cd :: .busGet .msg :: s.calls ∧
          (hit → t.scsi = s.scsi ∧ t.dma = s.dma ∧ t.pend = s.pend) ∧
          (¬hit →
            t.scsi = { s.scsi with recvAct := false, sendAct := false, drq := false } ∧
              t.dma = { s.dma with ff := false } ∧ t.pend = { s.pend with phase := true })) ∧
    (∀ s : State, s.scsi.recvAct = false → s.scsi.sendAct = false → ∀ req, phaseCheck req s = s) ∧
    ∀ s : State, phaseCheck false s = s

/-- 45_dma_scsi_handshake.md R497, R499. -/
def Obligations.RealDmaPacksAndCountsOneByte : Prop :=
  ∀ (b : Byte) (s : State),
    let t := dmaCount (dmaPack b s)
    (s.dma.ff = false → t.kram = s.kram ∧ t.dma.addr = s.dma.addr ∧ t.dma.lo = b) ∧
      (s.dma.ff = true →
        t.kram = memWrite s.kram (s.kctl.page.getLsbD 0) s.dma.addr (b ++ s.dma.lo) ∧ t.dma.addr = s.dma.addr + 1) ∧
      (s.dma.size = 0 → t.dma.size = 0 ∧ t.dma.ff = !s.dma.ff ∧ t.scsi = s.scsi ∧ t.pend = s.pend) ∧
      (s.dma.size = 1 →
        t.dma.size = 0 ∧ t.dma.ff = false ∧ t.scsi = { s.scsi with recvAct := false } ∧
          t.pend = { s.pend with dma := true }) ∧
      (1 < s.dma.size.toNat →
        t.dma.size.toNat + 1 = s.dma.size.toNat ∧ t.dma.ff = !s.dma.ff ∧ t.scsi = s.scsi ∧ t.pend = s.pend) ∧
      t.dma.ctl = s.dma.ctl ∧ t.calls = s.calls ∧ t.kctl = s.kctl

/-- 45_dma_scsi_handshake.md R498, over 4N ticks of a bus that answers each byte with REQ and then releases it
(answers queued: log 4). -/
def Obligations.RealDmaReceiveWritesNWords : Prop :=
  ∀ (s : State) (n : Nat) (bytes restB : List Byte) (restL : List Bool), 1 ≤ n → n ≤ 262144 →
    bytes.length = 2 * n → s.dma.size.toNat = 2 * n → s.dma.ff = false → s.dma.ctl.getLsbD 0 = true →
    s.scsi.recvAct = true → s.scsi.hsAck = false → s.scsi.scmd.getLsbD 4 = false → s.kram.wf = true →
    s.script.bytes = bytes ++ restB →
    s.script.levels =
      (List.replicate (2 * n)
        [true, false, s.scsi.sphase.getLsbD 2, s.scsi.sphase.getLsbD 1, s.scsi.sphase.getLsbD 0, false,
          true]).flatten ++ restL →
      let t := handshakeTick^[4 * n] s
      t.dma.size = 0 ∧ t.dma.addr = s.dma.addr + BitVec.ofNat 18 n ∧ t.scsi.recvAct = false ∧ t.scsi.hsAck = false ∧
        t.dma.ff = false ∧ t.pend = { s.pend with dma := true } ∧
        (∀ k : Nat, k < n →
          memRead t.kram (s.kctl.page.getLsbD 0) (s.dma.addr + BitVec.ofNat 18 k) =
            bytes.getD (2 * k + 1) 0 ++ bytes.getD (2 * k) 0) ∧
        (∀ (b : Bool) (a : KAddr),
          (∀ k : Nat, k < n → ¬(b = s.kctl.page.getLsbD 0 ∧ a = s.dma.addr + BitVec.ofNat 18 k)) →
            memRead t.kram b a = memRead s.kram b a) ∧
        (handshakeTick^[4 * n - 1] s).pend = { s.pend with dma := true } ∧
        ∀ j : Nat, j + 1 < 4 * n → (handshakeTick^[j] s).pend = s.pend

/-- 45_dma_scsi_handshake.md R493 (pseudo), R495, R496, for queued bus answers (log 4). The ACK level read has the
block's own drive ORed in (R491; log 5): the release needs no ACK answer of 1. -/
def Obligations.HandshakeReleasesSendsAndPaces : Prop :=
  (∀ (s : State) (ack : Bool) (rest : List Bool), s.scsi.hsAck = true → s.script.levels = false :: ack :: rest →
      let t := handshakeTick s
      t.scsi = { s.scsi with hsAck := false } ∧ t.dma = s.dma ∧ t.pend = s.pend ∧ t.kram = s.kram ∧
        t.calls =
          (if s.scsi.scmd.getLsbD 4 then [] else [.busSet .ack false]) ++ .busGet .ack :: .busGet .req :: s.calls) ∧
    (∀ (s : State) (rest : List Bool), s.scsi.sendAct = true → s.scsi.recvAct = false → s.scsi.hsAck = false →
      s.scsi.scmd.getLsbD 4 = false → s.scsi.drq = false →
      s.script.levels =
        true :: false :: s.scsi.sphase.getLsbD 2 :: s.scsi.sphase.getLsbD 1 :: s.scsi.sphase.getLsbD 0 :: rest →
      let t := handshakeTick s
      t.scsi = { s.scsi with hsAck := true, drq := true } ∧ t.dma = s.dma ∧ t.pend = s.pend ∧ t.kram = s.kram ∧
        t.calls.take 2 = [.busSet .ack true, .busSetData s.scsi.sout]) ∧
    ∀ (s : State) (b : Byte) (restB : List Byte) (rest : List Bool), s.scsi.recvAct = true → s.dma.ctl.getLsbD 0 = false →
      s.scsi.hsAck = false → s.scsi.scmd.getLsbD 4 = false → s.script.bytes = b :: restB →
      s.script.levels =
        true :: false :: s.scsi.sphase.getLsbD 2 :: s.scsi.sphase.getLsbD 1 :: s.scsi.sphase.getLsbD 0 :: rest →
      let t := handshakeTick s
      t.dma = s.dma ∧ t.pend = s.pend ∧ t.kram = s.kram ∧
        t.scsi = if s.scsi.drq then s.scsi else { s.scsi with scache := b, drq := true }

/-- 10_state.md R47; 46_host_operations.md R531; 70_reset_and_hazards.md R601: no other request touches RC, the
scheduler, the line buffers or the output. -/
def Obligations.OnlyRunResetAndRestoreReachTheDisplay : Prop :=
  ∀ (i : Instr) (s t : State), exec i s = .next t → (∀ n, i ≠ .run n) → (∀ n, i ≠ .reset n) → (∀ x, i ≠ .restore x) →
    t.rc = s.rc ∧ t.rcd = s.rcd ∧ t.timing = s.timing ∧ t.extcnt = s.extcnt ∧ t.line = s.line ∧ t.out = s.out ∧
      t.cfg = s.cfg ∧ t.requests = s.requests

/-- 43_palette_yuv.md R411; 41_memory_dma_registers.md R296; 45_dma_scsi_handshake.md R501; 60_exceptions.md R552,
R555: who may write the palette, KRAM, the transfer and the pending flags. -/
def Obligations.OnlyTheirOwnAccessesChangeSharedState : Prop :=
  ∀ (i : Instr) (s t : State), exec i s = .next t → (∀ n, i ≠ .reset n) → (∀ x, i ≠ .restore x) →
    ((∀ v, i ≠ .wrPalwdata v) → t.pcache = s.pcache ∧ t.palette.pal = s.palette.pal) ∧
      ((∀ v, i ≠ .wrKramdataLo v) → (∀ n, i ≠ .run n) → ∀ a, t.kram.readByte a = s.kram.readByte a) ∧
      ((∀ v, i ≠ .wrSdataLo v) → (∀ v, i ≠ .wrSmodeLo v) → (∀ v, i ≠ .wrSstatLo v) → (∀ v, i ≠ .wrSrstLo v) →
        i ≠ .rdSackLo → (∀ n, i ≠ .run n) →
          t.scsi.scache = s.scsi.scache ∧ t.scsi.drq = s.scsi.drq ∧ t.scsi.recvAct = s.scsi.recvAct ∧
            t.scsi.sendAct = s.scsi.sendAct ∧ t.scsi.hsAck = s.scsi.hsAck ∧ t.dma.ff = s.dma.ff ∧ t.dma.lo = s.dma.lo) ∧
      (i ≠ .rdKstat →
        (s.pend.dma = true → t.pend.dma = true) ∧ (s.pend.subch = true → t.pend.subch = true) ∧
          (s.pend.raster = true → t.pend.raster = true) ∧
          (i ≠ .rdSrstLo → s.pend.phase = true → t.pend.phase = true)) ∧
      ((∀ n, i ≠ .run n) →
        (t.pend.dma = true → s.pend.dma = true) ∧ (t.pend.phase = true → s.pend.phase = true) ∧
          (t.pend.subch = true → s.pend.subch = true) ∧ (t.pend.raster = true → s.pend.raster = true))

/-- 10_state.md R60; 20_memory.md R109: whatever the host asks, KRAM stays a canonical memory inside its address
space. -/
def Obligations.EveryStepKeepsKramCanonical : Prop :=
  ∀ s t : State, KramCanonical s → step s = .next t → KramCanonical t

/-- 43_palette_yuv.md R413; 10_state.md R35. -/
def Obligations.EveryStepKeepsThePaletteMirror : Prop :=
  ∀ s t : State, PaletteMirrored s → step s = .next t → PaletteMirrored t

/-- 10_state.md R39, R40, R42, R44, R70, R71; 42_timing_scheduler.md R361. -/
def Obligations.EveryStepKeepsMasksAndCounters : Prop :=
  ∀ s t : State, MasksHold s → CountersHold s → step s = .next t → MasksHold t ∧ CountersHold t

/-- 10_state.md R46, R73, R74; 44_compositor.md R441, R443; rows fitted to W_MAX (log 13). -/
def Obligations.EveryStepKeepsTheBuffersProper : Prop :=
  ∀ s t : State, BuffersProper s → RowsSorted s → RanksResolved s → step s = .next t →
    BuffersProper t ∧ RowsSorted t ∧ RanksResolved t

/-- 70_reset_and_hazards.md R590, for every value of the open parameters, KRAM_INIT among them (logs 2 and 7). -/
def Obligations.ResetMeetsEveryInvariant : Prop :=
  KramCanonical State.reset ∧ PaletteMirrored State.reset ∧ MasksHold State.reset ∧ CountersHold State.reset ∧
    BuffersProper State.reset ∧ RowsSorted State.reset ∧ RanksResolved State.reset ∧ IrqTold State.reset

/-- 44_compositor.md R443, R444. -/
def Obligations.RanksAreDenseAndOrdered : Prop :=
  ∀ p : PicRegs,
    (∀ l, enabled p l = false → rank (resolveRanks p) l = 0) ∧
      List.Perm ((layers.filter (enabled p)).map (rank (resolveRanks p)))
        ((List.range (layers.countP (enabled p))).map (· + 1)) ∧
      ∀ l m, enabled p l = true → enabled p m = true →
        ((rawPriority p l).toNat < (rawPriority p m).toNat ∨
          ((rawPriority p l).toNat = (rawPriority p m).toNat ∧ layerIndex l < layerIndex m)) →
        rank (resolveRanks p) l < rank (resolveRanks p) m

/-- 44_compositor.md R449, on the table's domain 0..8 (R448). -/
def Obligations.PriorityTableProperties : Prop :=
  ∀ rT rB rO : Nat, rT ≤ 8 → rB ≤ 8 → rO ≤ 8 →
    let rk : Slot → Nat := fun x => match x with | .t => rT | .b => rB | .o => rO
    let r := priorityTable rT rB rO
    (r.hind.isSome ↔ ¬(rT = 0 ∧ rB = 0 ∧ rO = 0)) ∧
      (rk r.fore = 0 → rT = 0 ∧ rB = 0 ∧ rO = 0) ∧
      (∀ x : Slot, rk x ≠ 0 → rk r.fore ≤ rk x) ∧
      (∀ h, r.hind = some h → rk h ≠ 0 ∧ ∀ x : Slot, rk x ≤ rk h) ∧
      (r.mid.isSome ↔ rT ≠ 0 ∧ rB ≠ 0 ∧ rO ≠ 0) ∧
      ∀ m, r.mid = some m → m ≠ r.fore ∧ r.hind ≠ some m

/-- 44_compositor.md R461, for each of the seven layers; R453 for the fallback. -/
def Obligations.ALoneLayerIsCopiedOverTheFallback : Prop :=
  (∀ (cfg : Params) (rc : Latched) (ln : LineBufs) (x : Nat) (l : Layer), rank rc.rank l ≠ 0 →
      (∀ m, m ≠ l → rank rc.rank m = 0) → rc.pic.celctl.getLsbD 15 = false →
        composeColumn cfg rc ln x =
          (layerColour rc ln x l).getD (pcacheGet rc.pcache ((rc.pic.palofs1.extractLsb' 0 8).setWidth 10 <<< 1))) ∧
    ∀ (cfg : Params) (rc : Latched) (ln : LineBufs), (∀ m, rank rc.rank m = 0) →
      composeLine cfg rc ln =
        List.replicate (if rc.pic.pmode.getLsbD 3 then cfg.width.high else cfg.width.normal)
          (yuv2rgb cfg.yuv2rgb cfg.neutral)

/-- 44_compositor.md R452. -/
def Obligations.ChromaKeyTestsTheThreeChannels : Prop :=
  ∀ (p : PicRegs) (c : Yuv24),
    (keyed p c = true ↔
      p.pmode.getLsbD 3 = false ∧
        (p.keyy.extractLsb' 0 8).toNat ≤ (c.extractLsb' 16 8).toNat ∧
        (c.extractLsb' 16 8).toNat ≤ (p.keyy.extractLsb' 8 8).toNat ∧
        (p.keyu.extractLsb' 0 8).toNat ≤ (c.extractLsb' 8 8).toNat ∧
        (c.extractLsb' 8 8).toNat ≤ (p.keyu.extractLsb' 8 8).toNat ∧
        (p.keyv.extractLsb' 0 8).toNat ≤ (c.extractLsb' 0 8).toNat ∧
        (c.extractLsb' 0 8).toNat ≤ (p.keyv.extractLsb' 8 8).toNat) ∧
      (keyed PicRegs.zero c = true ↔ c = 0) ∧
      ((p.keyy.extractLsb' 8 8).toNat < (p.keyy.extractLsb' 0 8).toNat → keyed p c = false)

/-- 44_compositor.md R456, R458; 43_palette_yuv.md R412. -/
def Obligations.BlendWeighsTheTwoColours : Prop :=
  ∀ (a b : BitVec 12) (p q : Yuv24),
    let y := fun c : Yuv24 => (c.extractLsb' 16 8).toNat
    let u := fun c : Yuv24 => ((c.extractLsb' 8 8).toNat : Int) - 128
    let v := fun c : Yuv24 => ((c.extractLsb' 0 8).toNat : Int) - 128
    y (blend a b p q) = min (y p * (a.extractLsb' 8 4).toNat / 8 + y q * (b.extractLsb' 8 4).toNat / 8) 255 ∧
      u (blend a b p q) + 128 =
        min (max (128 + (u p * (a.extractLsb' 4 4).toNat).tdiv 8 + (u q * (b.extractLsb' 4 4).toNat).tdiv 8) 0) 255 ∧
      v (blend a b p q) + 128 =
        min (max (128 + (v p * (a.extractLsb' 0 4).toNat).tdiv 8 + (v q * (b.extractLsb' 0 4).toNat).tdiv 8) 0) 255 ∧
      blend 0x888 0 p q = p ∧ blend 0 0x888 p q = q ∧ blend 0 0 p q = 0x008080
end

