-- ==== Sys2Proof/Laws/State.lean ====
section
/-! SUPPORT. One lemma per field per named update of State, all true by unfolding, so that no later proof unfolds a
record update. -/

namespace Sys2Proof.Machine

variable (s : State)

@[simp] theorem State.setCar_car (x : BitVec 5) : (s.setCar x).car = x := rfl
@[simp] theorem State.setCar_kar (x : BitVec 5) : (s.setCar x).kar = s.kar := rfl
@[simp] theorem State.setCar_pic (x : BitVec 5) : (s.setCar x).pic = s.pic := rfl
@[simp] theorem State.setCar_palette (x : BitVec 5) : (s.setCar x).palette = s.palette := rfl
@[simp] theorem State.setCar_timing (x : BitVec 5) : (s.setCar x).timing = s.timing := rfl
@[simp] theorem State.setCar_rc (x : BitVec 5) : (s.setCar x).rc = s.rc := rfl
@[simp] theorem State.setCar_scsi (x : BitVec 5) : (s.setCar x).scsi = s.scsi := rfl
@[simp] theorem State.setCar_dma (x : BitVec 5) : (s.setCar x).dma = s.dma := rfl
@[simp] theorem State.setCar_play (x : BitVec 5) : (s.setCar x).play = s.play := rfl
@[simp] theorem State.setCar_ovl (x : BitVec 5) : (s.setCar x).ovl = s.ovl := rfl
@[simp] theorem State.setCar_pend (x : BitVec 5) : (s.setCar x).pend = s.pend := rfl
@[simp] theorem State.setCar_mp (x : BitVec 5) : (s.setCar x).mp = s.mp := rfl
@[simp] theorem State.setCar_bg (x : BitVec 5) : (s.setCar x).bg = s.bg := rfl
@[simp] theorem State.setCar_kctl (x : BitVec 5) : (s.setCar x).kctl = s.kctl := rfl
@[simp] theorem State.setCar_kram (x : BitVec 5) : (s.setCar x).kram = s.kram := rfl
@[simp] theorem State.setCar_line (x : BitVec 5) : (s.setCar x).line = s.line := rfl
@[simp] theorem State.setCar_out (x : BitVec 5) : (s.setCar x).out = s.out := rfl
@[simp] theorem State.setCar_pcache (x : BitVec 5) : (s.setCar x).pcache = s.pcache := rfl
@[simp] theorem State.setCar_rcd (x : BitVec 5) : (s.setCar x).rcd = s.rcd := rfl
@[simp] theorem State.setCar_extcnt (x : BitVec 5) : (s.setCar x).extcnt = s.extcnt := rfl
@[simp] theorem State.setCar_lastIrq (x : BitVec 5) : (s.setCar x).lastIrq = s.lastIrq := rfl
@[simp] theorem State.setCar_script (x : BitVec 5) : (s.setCar x).script = s.script := rfl
@[simp] theorem State.setCar_requests (x : BitVec 5) : (s.setCar x).requests = s.requests := rfl
@[simp] theorem State.setCar_calls (x : BitVec 5) : (s.setCar x).calls = s.calls := rfl
@[simp] theorem State.setCar_reply (x : BitVec 5) : (s.setCar x).reply = s.reply := rfl
@[simp] theorem State.setCar_cfg (x : BitVec 5) : (s.setCar x).cfg = s.cfg := rfl

@[simp] theorem State.setKar_car (x : BitVec 7) : (s.setKar x).car = s.car := rfl
@[simp] theorem State.setKar_kar (x : BitVec 7) : (s.setKar x).kar = x := rfl
@[simp] theorem State.setKar_pic (x : BitVec 7) : (s.setKar x).pic = s.pic := rfl
@[simp] theorem State.setKar_palette (x : BitVec 7) : (s.setKar x).palette = s.palette := rfl
@[simp] theorem State.setKar_timing (x : BitVec 7) : (s.setKar x).timing = s.timing := rfl
@[simp] theorem State.setKar_rc (x : BitVec 7) : (s.setKar x).rc = s.rc := rfl
@[simp] theorem State.setKar_scsi (x : BitVec 7) : (s.setKar x).scsi = s.scsi := rfl
@[simp] theorem State.setKar_dma (x : BitVec 7) : (s.setKar x).dma = s.dma := rfl
@[simp] theorem State.setKar_play (x : BitVec 7) : (s.setKar x).play = s.play := rfl
@[simp] theorem State.setKar_ovl (x : BitVec 7) : (s.setKar x).ovl = s.ovl := rfl
@[simp] theorem State.setKar_pend (x : BitVec 7) : (s.setKar x).pend = s.pend := rfl
@[simp] theorem State.setKar_mp (x : BitVec 7) : (s.setKar x).mp = s.mp := rfl
@[simp] theorem State.setKar_bg (x : BitVec 7) : (s.setKar x).bg = s.bg := rfl
@[simp] theorem State.setKar_kctl (x : BitVec 7) : (s.setKar x).kctl = s.kctl := rfl
@[simp] theorem State.setKar_kram (x : BitVec 7) : (s.setKar x).kram = s.kram := rfl
@[simp] theorem State.setKar_line (x : BitVec 7) : (s.setKar x).line = s.line := rfl
@[simp] theorem State.setKar_out (x : BitVec 7) : (s.setKar x).out = s.out := rfl
@[simp] theorem State.setKar_pcache (x : BitVec 7) : (s.setKar x).pcache = s.pcache := rfl
@[simp] theorem State.setKar_rcd (x : BitVec 7) : (s.setKar x).rcd = s.rcd := rfl
@[simp] theorem State.setKar_extcnt (x : BitVec 7) : (s.setKar x).extcnt = s.extcnt := rfl
@[simp] theorem State.setKar_lastIrq (x : BitVec 7) : (s.setKar x).lastIrq = s.lastIrq := rfl
@[simp] theorem State.setKar_script (x : BitVec 7) : (s.setKar x).script = s.script := rfl
@[simp] theorem State.setKar_requests (x : BitVec 7) : (s.setKar x).requests = s.requests := rfl
@[simp] theorem State.setKar_calls (x : BitVec 7) : (s.setKar x).calls = s.calls := rfl
@[simp] theorem State.setKar_reply (x : BitVec 7) : (s.setKar x).reply = s.reply := rfl
@[simp] theorem State.setKar_cfg (x : BitVec 7) : (s.setKar x).cfg = s.cfg := rfl

@[simp] theorem State.setPic_car (x : PicRegs) : (s.setPic x).car = s.car := rfl
@[simp] theorem State.setPic_kar (x : PicRegs) : (s.setPic x).kar = s.kar := rfl
@[simp] theorem State.setPic_pic (x : PicRegs) : (s.setPic x).pic = x := rfl
@[simp] theorem State.setPic_palette (x : PicRegs) : (s.setPic x).palette = s.palette := rfl
@[simp] theorem State.setPic_timing (x : PicRegs) : (s.setPic x).timing = s.timing := rfl
@[simp] theorem State.setPic_rc (x : PicRegs) : (s.setPic x).rc = s.rc := rfl
@[simp] theorem State.setPic_scsi (x : PicRegs) : (s.setPic x).scsi = s.scsi := rfl
@[simp] theorem State.setPic_dma (x : PicRegs) : (s.setPic x).dma = s.dma := rfl
@[simp] theorem State.setPic_play (x : PicRegs) : (s.setPic x).play = s.play := rfl
@[simp] theorem State.setPic_ovl (x : PicRegs) : (s.setPic x).ovl = s.ovl := rfl
@[simp] theorem State.setPic_pend (x : PicRegs) : (s.setPic x).pend = s.pend := rfl
@[simp] theorem State.setPic_mp (x : PicRegs) : (s.setPic x).mp = s.mp := rfl
@[simp] theorem State.setPic_bg (x : PicRegs) : (s.setPic x).bg = s.bg := rfl
@[simp] theorem State.setPic_kctl (x : PicRegs) : (s.setPic x).kctl = s.kctl := rfl
@[simp] theorem State.setPic_kram (x : PicRegs) : (s.setPic x).kram = s.kram := rfl
@[simp] theorem State.setPic_line (x : PicRegs) : (s.setPic x).line = s.line := rfl
@[simp] theorem State.setPic_out (x : PicRegs) : (s.setPic x).out = s.out := rfl
@[simp] theorem State.setPic_pcache (x : PicRegs) : (s.setPic x).pcache = s.pcache := rfl
@[simp] theorem State.setPic_rcd (x : PicRegs) : (s.setPic x).rcd = s.rcd := rfl
@[simp] theorem State.setPic_extcnt (x : PicRegs) : (s.setPic x).extcnt = s.extcnt := rfl
@[simp] theorem State.setPic_lastIrq (x : PicRegs) : (s.setPic x).lastIrq = s.lastIrq := rfl
@[simp] theorem State.setPic_script (x : PicRegs) : (s.setPic x).script = s.script := rfl
@[simp] theorem State.setPic_requests (x : PicRegs) : (s.setPic x).requests = s.requests := rfl
@[simp] theorem State.setPic_calls (x : PicRegs) : (s.setPic x).calls = s.calls := rfl
@[simp] theorem State.setPic_reply (x : PicRegs) : (s.setPic x).reply = s.reply := rfl
@[simp] theorem State.setPic_cfg (x : PicRegs) : (s.setPic x).cfg = s.cfg := rfl

@[simp] theorem State.setPalette_car (x : Palette) : (s.setPalette x).car = s.car := rfl
@[simp] theorem State.setPalette_kar (x : Palette) : (s.setPalette x).kar = s.kar := rfl
@[simp] theorem State.setPalette_pic (x : Palette) : (s.setPalette x).pic = s.pic := rfl
@[simp] theorem State.setPalette_palette (x : Palette) : (s.setPalette x).palette = x := rfl
@[simp] theorem State.setPalette_timing (x : Palette) : (s.setPalette x).timing = s.timing := rfl
@[simp] theorem State.setPalette_rc (x : Palette) : (s.setPalette x).rc = s.rc := rfl
@[simp] theorem State.setPalette_scsi (x : Palette) : (s.setPalette x).scsi = s.scsi := rfl
@[simp] theorem State.setPalette_dma (x : Palette) : (s.setPalette x).dma = s.dma := rfl
@[simp] theorem State.setPalette_play (x : Palette) : (s.setPalette x).play = s.play := rfl
@[simp] theorem State.setPalette_ovl (x : Palette) : (s.setPalette x).ovl = s.ovl := rfl
@[simp] theorem State.setPalette_pend (x : Palette) : (s.setPalette x).pend = s.pend := rfl
@[simp] theorem State.setPalette_mp (x : Palette) : (s.setPalette x).mp = s.mp := rfl
@[simp] theorem State.setPalette_bg (x : Palette) : (s.setPalette x).bg = s.bg := rfl
@[simp] theorem State.setPalette_kctl (x : Palette) : (s.setPalette x).kctl = s.kctl := rfl
@[simp] theorem State.setPalette_kram (x : Palette) : (s.setPalette x).kram = s.kram := rfl
@[simp] theorem State.setPalette_line (x : Palette) : (s.setPalette x).line = s.line := rfl
@[simp] theorem State.setPalette_out (x : Palette) : (s.setPalette x).out = s.out := rfl
@[simp] theorem State.setPalette_pcache (x : Palette) : (s.setPalette x).pcache = s.pcache := rfl
@[simp] theorem State.setPalette_rcd (x : Palette) : (s.setPalette x).rcd = s.rcd := rfl
@[simp] theorem State.setPalette_extcnt (x : Palette) : (s.setPalette x).extcnt = s.extcnt := rfl
@[simp] theorem State.setPalette_lastIrq (x : Palette) : (s.setPalette x).lastIrq = s.lastIrq := rfl
@[simp] theorem State.setPalette_script (x : Palette) : (s.setPalette x).script = s.script := rfl
@[simp] theorem State.setPalette_requests (x : Palette) : (s.setPalette x).requests = s.requests := rfl
@[simp] theorem State.setPalette_calls (x : Palette) : (s.setPalette x).calls = s.calls := rfl
@[simp] theorem State.setPalette_reply (x : Palette) : (s.setPalette x).reply = s.reply := rfl
@[simp] theorem State.setPalette_cfg (x : Palette) : (s.setPalette x).cfg = s.cfg := rfl

@[simp] theorem State.setTiming_car (x : Timing) : (s.setTiming x).car = s.car := rfl
@[simp] theorem State.setTiming_kar (x : Timing) : (s.setTiming x).kar = s.kar := rfl
@[simp] theorem State.setTiming_pic (x : Timing) : (s.setTiming x).pic = s.pic := rfl
@[simp] theorem State.setTiming_palette (x : Timing) : (s.setTiming x).palette = s.palette := rfl
@[simp] theorem State.setTiming_timing (x : Timing) : (s.setTiming x).timing = x := rfl
@[simp] theorem State.setTiming_rc (x : Timing) : (s.setTiming x).rc = s.rc := rfl
@[simp] theorem State.setTiming_scsi (x : Timing) : (s.setTiming x).scsi = s.scsi := rfl
@[simp] theorem State.setTiming_dma (x : Timing) : (s.setTiming x).dma = s.dma := rfl
@[simp] theorem State.setTiming_play (x : Timing) : (s.setTiming x).play = s.play := rfl
@[simp] theorem State.setTiming_ovl (x : Timing) : (s.setTiming x).ovl = s.ovl := rfl
@[simp] theorem State.setTiming_pend (x : Timing) : (s.setTiming x).pend = s.pend := rfl
@[simp] theorem State.setTiming_mp (x : Timing) : (s.setTiming x).mp = s.mp := rfl
@[simp] theorem State.setTiming_bg (x : Timing) : (s.setTiming x).bg = s.bg := rfl
@[simp] theorem State.setTiming_kctl (x : Timing) : (s.setTiming x).kctl = s.kctl := rfl
@[simp] theorem State.setTiming_kram (x : Timing) : (s.setTiming x).kram = s.kram := rfl
@[simp] theorem State.setTiming_line (x : Timing) : (s.setTiming x).line = s.line := rfl
@[simp] theorem State.setTiming_out (x : Timing) : (s.setTiming x).out = s.out := rfl
@[simp] theorem State.setTiming_pcache (x : Timing) : (s.setTiming x).pcache = s.pcache := rfl
@[simp] theorem State.setTiming_rcd (x : Timing) : (s.setTiming x).rcd = s.rcd := rfl
@[simp] theorem State.setTiming_extcnt (x : Timing) : (s.setTiming x).extcnt = s.extcnt := rfl
@[simp] theorem State.setTiming_lastIrq (x : Timing) : (s.setTiming x).lastIrq = s.lastIrq := rfl
@[simp] theorem State.setTiming_script (x : Timing) : (s.setTiming x).script = s.script := rfl
@[simp] theorem State.setTiming_requests (x : Timing) : (s.setTiming x).requests = s.requests := rfl
@[simp] theorem State.setTiming_calls (x : Timing) : (s.setTiming x).calls = s.calls := rfl
@[simp] theorem State.setTiming_reply (x : Timing) : (s.setTiming x).reply = s.reply := rfl
@[simp] theorem State.setTiming_cfg (x : Timing) : (s.setTiming x).cfg = s.cfg := rfl

@[simp] theorem State.setRc_car (x : RenderCache) : (s.setRc x).car = s.car := rfl
@[simp] theorem State.setRc_kar (x : RenderCache) : (s.setRc x).kar = s.kar := rfl
@[simp] theorem State.setRc_pic (x : RenderCache) : (s.setRc x).pic = s.pic := rfl
@[simp] theorem State.setRc_palette (x : RenderCache) : (s.setRc x).palette = s.palette := rfl
@[simp] theorem State.setRc_timing (x : RenderCache) : (s.setRc x).timing = s.timing := rfl
@[simp] theorem State.setRc_rc (x : RenderCache) : (s.setRc x).rc = x := rfl
@[simp] theorem State.setRc_scsi (x : RenderCache) : (s.setRc x).scsi = s.scsi := rfl
@[simp] theorem State.setRc_dma (x : RenderCache) : (s.setRc x).dma = s.dma := rfl
@[simp] theorem State.setRc_play (x : RenderCache) : (s.setRc x).play = s.play := rfl
@[simp] theorem State.setRc_ovl (x : RenderCache) : (s.setRc x).ovl = s.ovl := rfl
@[simp] theorem State.setRc_pend (x : RenderCache) : (s.setRc x).pend = s.pend := rfl
@[simp] theorem State.setRc_mp (x : RenderCache) : (s.setRc x).mp = s.mp := rfl
@[simp] theorem State.setRc_bg (x : RenderCache) : (s.setRc x).bg = s.bg := rfl
@[simp] theorem State.setRc_kctl (x : RenderCache) : (s.setRc x).kctl = s.kctl := rfl
@[simp] theorem State.setRc_kram (x : RenderCache) : (s.setRc x).kram = s.kram := rfl
@[simp] theorem State.setRc_line (x : RenderCache) : (s.setRc x).line = s.line := rfl
@[simp] theorem State.setRc_out (x : RenderCache) : (s.setRc x).out = s.out := rfl
@[simp] theorem State.setRc_pcache (x : RenderCache) : (s.setRc x).pcache = s.pcache := rfl
@[simp] theorem State.setRc_rcd (x : RenderCache) : (s.setRc x).rcd = s.rcd := rfl
@[simp] theorem State.setRc_extcnt (x : RenderCache) : (s.setRc x).extcnt = s.extcnt := rfl
@[simp] theorem State.setRc_lastIrq (x : RenderCache) : (s.setRc x).lastIrq = s.lastIrq := rfl
@[simp] theorem State.setRc_script (x : RenderCache) : (s.setRc x).script = s.script := rfl
@[simp] theorem State.setRc_requests (x : RenderCache) : (s.setRc x).requests = s.requests := rfl
@[simp] theorem State.setRc_calls (x : RenderCache) : (s.setRc x).calls = s.calls := rfl
@[simp] theorem State.setRc_reply (x : RenderCache) : (s.setRc x).reply = s.reply := rfl
@[simp] theorem State.setRc_cfg (x : RenderCache) : (s.setRc x).cfg = s.cfg := rfl

@[simp] theorem State.setScsi_car (x : Scsi) : (s.setScsi x).car = s.car := rfl
@[simp] theorem State.setScsi_kar (x : Scsi) : (s.setScsi x).kar = s.kar := rfl
@[simp] theorem State.setScsi_pic (x : Scsi) : (s.setScsi x).pic = s.pic := rfl
@[simp] theorem State.setScsi_palette (x : Scsi) : (s.setScsi x).palette = s.palette := rfl
@[simp] theorem State.setScsi_timing (x : Scsi) : (s.setScsi x).timing = s.timing := rfl
@[simp] theorem State.setScsi_rc (x : Scsi) : (s.setScsi x).rc = s.rc := rfl
@[simp] theorem State.setScsi_scsi (x : Scsi) : (s.setScsi x).scsi = x := rfl
@[simp] theorem State.setScsi_dma (x : Scsi) : (s.setScsi x).dma = s.dma := rfl
@[simp] theorem State.setScsi_play (x : Scsi) : (s.setScsi x).play = s.play := rfl
@[simp] theorem State.setScsi_ovl (x : Scsi) : (s.setScsi x).ovl = s.ovl := rfl
@[simp] theorem State.setScsi_pend (x : Scsi) : (s.setScsi x).pend = s.pend := rfl
@[simp] theorem State.setScsi_mp (x : Scsi) : (s.setScsi x).mp = s.mp := rfl
@[simp] theorem State.setScsi_bg (x : Scsi) : (s.setScsi x).bg = s.bg := rfl
@[simp] theorem State.setScsi_kctl (x : Scsi) : (s.setScsi x).kctl = s.kctl := rfl
@[simp] theorem State.setScsi_kram (x : Scsi) : (s.setScsi x).kram = s.kram := rfl
@[simp] theorem State.setScsi_line (x : Scsi) : (s.setScsi x).line = s.line := rfl
@[simp] theorem State.setScsi_out (x : Scsi) : (s.setScsi x).out = s.out := rfl
@[simp] theorem State.setScsi_pcache (x : Scsi) : (s.setScsi x).pcache = s.pcache := rfl
@[simp] theorem State.setScsi_rcd (x : Scsi) : (s.setScsi x).rcd = s.rcd := rfl
@[simp] theorem State.setScsi_extcnt (x : Scsi) : (s.setScsi x).extcnt = s.extcnt := rfl
@[simp] theorem State.setScsi_lastIrq (x : Scsi) : (s.setScsi x).lastIrq = s.lastIrq := rfl
@[simp] theorem State.setScsi_script (x : Scsi) : (s.setScsi x).script = s.script := rfl
@[simp] theorem State.setScsi_requests (x : Scsi) : (s.setScsi x).requests = s.requests := rfl
@[simp] theorem State.setScsi_calls (x : Scsi) : (s.setScsi x).calls = s.calls := rfl
@[simp] theorem State.setScsi_reply (x : Scsi) : (s.setScsi x).reply = s.reply := rfl
@[simp] theorem State.setScsi_cfg (x : Scsi) : (s.setScsi x).cfg = s.cfg := rfl

@[simp] theorem State.setDma_car (x : Dma) : (s.setDma x).car = s.car := rfl
@[simp] theorem State.setDma_kar (x : Dma) : (s.setDma x).kar = s.kar := rfl
@[simp] theorem State.setDma_pic (x : Dma) : (s.setDma x).pic = s.pic := rfl
@[simp] theorem State.setDma_palette (x : Dma) : (s.setDma x).palette = s.palette := rfl
@[simp] theorem State.setDma_timing (x : Dma) : (s.setDma x).timing = s.timing := rfl
@[simp] theorem State.setDma_rc (x : Dma) : (s.setDma x).rc = s.rc := rfl
@[simp] theorem State.setDma_scsi (x : Dma) : (s.setDma x).scsi = s.scsi := rfl
@[simp] theorem State.setDma_dma (x : Dma) : (s.setDma x).dma = x := rfl
@[simp] theorem State.setDma_play (x : Dma) : (s.setDma x).play = s.play := rfl
@[simp] theorem State.setDma_ovl (x : Dma) : (s.setDma x).ovl = s.ovl := rfl
@[simp] theorem State.setDma_pend (x : Dma) : (s.setDma x).pend = s.pend := rfl
@[simp] theorem State.setDma_mp (x : Dma) : (s.setDma x).mp = s.mp := rfl
@[simp] theorem State.setDma_bg (x : Dma) : (s.setDma x).bg = s.bg := rfl
@[simp] theorem State.setDma_kctl (x : Dma) : (s.setDma x).kctl = s.kctl := rfl
@[simp] theorem State.setDma_kram (x : Dma) : (s.setDma x).kram = s.kram := rfl
@[simp] theorem State.setDma_line (x : Dma) : (s.setDma x).line = s.line := rfl
@[simp] theorem State.setDma_out (x : Dma) : (s.setDma x).out = s.out := rfl
@[simp] theorem State.setDma_pcache (x : Dma) : (s.setDma x).pcache = s.pcache := rfl
@[simp] theorem State.setDma_rcd (x : Dma) : (s.setDma x).rcd = s.rcd := rfl
@[simp] theorem State.setDma_extcnt (x : Dma) : (s.setDma x).extcnt = s.extcnt := rfl
@[simp] theorem State.setDma_lastIrq (x : Dma) : (s.setDma x).lastIrq = s.lastIrq := rfl
@[simp] theorem State.setDma_script (x : Dma) : (s.setDma x).script = s.script := rfl
@[simp] theorem State.setDma_requests (x : Dma) : (s.setDma x).requests = s.requests := rfl
@[simp] theorem State.setDma_calls (x : Dma) : (s.setDma x).calls = s.calls := rfl
@[simp] theorem State.setDma_reply (x : Dma) : (s.setDma x).reply = s.reply := rfl
@[simp] theorem State.setDma_cfg (x : Dma) : (s.setDma x).cfg = s.cfg := rfl

@[simp] theorem State.setPlay_car (x : Playback) : (s.setPlay x).car = s.car := rfl
@[simp] theorem State.setPlay_kar (x : Playback) : (s.setPlay x).kar = s.kar := rfl
@[simp] theorem State.setPlay_pic (x : Playback) : (s.setPlay x).pic = s.pic := rfl
@[simp] theorem State.setPlay_palette (x : Playback) : (s.setPlay x).palette = s.palette := rfl
@[simp] theorem State.setPlay_timing (x : Playback) : (s.setPlay x).timing = s.timing := rfl
@[simp] theorem State.setPlay_rc (x : Playback) : (s.setPlay x).rc = s.rc := rfl
@[simp] theorem State.setPlay_scsi (x : Playback) : (s.setPlay x).scsi = s.scsi := rfl
@[simp] theorem State.setPlay_dma (x : Playback) : (s.setPlay x).dma = s.dma := rfl
@[simp] theorem State.setPlay_play (x : Playback) : (s.setPlay x).play = x := rfl
@[simp] theorem State.setPlay_ovl (x : Playback) : (s.setPlay x).ovl = s.ovl := rfl
@[simp] theorem State.setPlay_pend (x : Playback) : (s.setPlay x).pend = s.pend := rfl
@[simp] theorem State.setPlay_mp (x : Playback) : (s.setPlay x).mp = s.mp := rfl
@[simp] theorem State.setPlay_bg (x : Playback) : (s.setPlay x).bg = s.bg := rfl
@[simp] theorem State.setPlay_kctl (x : Playback) : (s.setPlay x).kctl = s.kctl := rfl
@[simp] theorem State.setPlay_kram (x : Playback) : (s.setPlay x).kram = s.kram := rfl
@[simp] theorem State.setPlay_line (x : Playback) : (s.setPlay x).line = s.line := rfl
@[simp] theorem State.setPlay_out (x : Playback) : (s.setPlay x).out = s.out := rfl
@[simp] theorem State.setPlay_pcache (x : Playback) : (s.setPlay x).pcache = s.pcache := rfl
@[simp] theorem State.setPlay_rcd (x : Playback) : (s.setPlay x).rcd = s.rcd := rfl
@[simp] theorem State.setPlay_extcnt (x : Playback) : (s.setPlay x).extcnt = s.extcnt := rfl
@[simp] theorem State.setPlay_lastIrq (x : Playback) : (s.setPlay x).lastIrq = s.lastIrq := rfl
@[simp] theorem State.setPlay_script (x : Playback) : (s.setPlay x).script = s.script := rfl
@[simp] theorem State.setPlay_requests (x : Playback) : (s.setPlay x).requests = s.requests := rfl
@[simp] theorem State.setPlay_calls (x : Playback) : (s.setPlay x).calls = s.calls := rfl
@[simp] theorem State.setPlay_reply (x : Playback) : (s.setPlay x).reply = s.reply := rfl
@[simp] theorem State.setPlay_cfg (x : Playback) : (s.setPlay x).cfg = s.cfg := rfl

@[simp] theorem State.setOvl_car (x : Overlay) : (s.setOvl x).car = s.car := rfl
@[simp] theorem State.setOvl_kar (x : Overlay) : (s.setOvl x).kar = s.kar := rfl
@[simp] theorem State.setOvl_pic (x : Overlay) : (s.setOvl x).pic = s.pic := rfl
@[simp] theorem State.setOvl_palette (x : Overlay) : (s.setOvl x).palette = s.palette := rfl
@[simp] theorem State.setOvl_timing (x : Overlay) : (s.setOvl x).timing = s.timing := rfl
@[simp] theorem State.setOvl_rc (x : Overlay) : (s.setOvl x).rc = s.rc := rfl
@[simp] theorem State.setOvl_scsi (x : Overlay) : (s.setOvl x).scsi = s.scsi := rfl
@[simp] theorem State.setOvl_dma (x : Overlay) : (s.setOvl x).dma = s.dma := rfl
@[simp] theorem State.setOvl_play (x : Overlay) : (s.setOvl x).play = s.play := rfl
@[simp] theorem State.setOvl_ovl (x : Overlay) : (s.setOvl x).ovl = x := rfl
@[simp] theorem State.setOvl_pend (x : Overlay) : (s.setOvl x).pend = s.pend := rfl
@[simp] theorem State.setOvl_mp (x : Overlay) : (s.setOvl x).mp = s.mp := rfl
@[simp] theorem State.setOvl_bg (x : Overlay) : (s.setOvl x).bg = s.bg := rfl
@[simp] theorem State.setOvl_kctl (x : Overlay) : (s.setOvl x).kctl = s.kctl := rfl
@[simp] theorem State.setOvl_kram (x : Overlay) : (s.setOvl x).kram = s.kram := rfl
@[simp] theorem State.setOvl_line (x : Overlay) : (s.setOvl x).line = s.line := rfl
@[simp] theorem State.setOvl_out (x : Overlay) : (s.setOvl x).out = s.out := rfl
@[simp] theorem State.setOvl_pcache (x : Overlay) : (s.setOvl x).pcache = s.pcache := rfl
@[simp] theorem State.setOvl_rcd (x : Overlay) : (s.setOvl x).rcd = s.rcd := rfl
@[simp] theorem State.setOvl_extcnt (x : Overlay) : (s.setOvl x).extcnt = s.extcnt := rfl
@[simp] theorem State.setOvl_lastIrq (x : Overlay) : (s.setOvl x).lastIrq = s.lastIrq := rfl
@[simp] theorem State.setOvl_script (x : Overlay) : (s.setOvl x).script = s.script := rfl
@[simp] theorem State.setOvl_requests (x : Overlay) : (s.setOvl x).requests = s.requests := rfl
@[simp] theorem State.setOvl_calls (x : Overlay) : (s.setOvl x).calls = s.calls := rfl
@[simp] theorem State.setOvl_reply (x : Overlay) : (s.setOvl x).reply = s.reply := rfl
@[simp] theorem State.setOvl_cfg (x : Overlay) : (s.setOvl x).cfg = s.cfg := rfl

@[simp] theorem State.setPend_car (x : Pending) : (s.setPend x).car = s.car := rfl
@[simp] theorem State.setPend_kar (x : Pending) : (s.setPend x).kar = s.kar := rfl
@[simp] theorem State.setPend_pic (x : Pending) : (s.setPend x).pic = s.pic := rfl
@[simp] theorem State.setPend_palette (x : Pending) : (s.setPend x).palette = s.palette := rfl
@[simp] theorem State.setPend_timing (x : Pending) : (s.setPend x).timing = s.timing := rfl
@[simp] theorem State.setPend_rc (x : Pending) : (s.setPend x).rc = s.rc := rfl
@[simp] theorem State.setPend_scsi (x : Pending) : (s.setPend x).scsi = s.scsi := rfl
@[simp] theorem State.setPend_dma (x : Pending) : (s.setPend x).dma = s.dma := rfl
@[simp] theorem State.setPend_play (x : Pending) : (s.setPend x).play = s.play := rfl
@[simp] theorem State.setPend_ovl (x : Pending) : (s.setPend x).ovl = s.ovl := rfl
@[simp] theorem State.setPend_pend (x : Pending) : (s.setPend x).pend = x := rfl
@[simp] theorem State.setPend_mp (x : Pending) : (s.setPend x).mp = s.mp := rfl
@[simp] theorem State.setPend_bg (x : Pending) : (s.setPend x).bg = s.bg := rfl
@[simp] theorem State.setPend_kctl (x : Pending) : (s.setPend x).kctl = s.kctl := rfl
@[simp] theorem State.setPend_kram (x : Pending) : (s.setPend x).kram = s.kram := rfl
@[simp] theorem State.setPend_line (x : Pending) : (s.setPend x).line = s.line := rfl
@[simp] theorem State.setPend_out (x : Pending) : (s.setPend x).out = s.out := rfl
@[simp] theorem State.setPend_pcache (x : Pending) : (s.setPend x).pcache = s.pcache := rfl
@[simp] theorem State.setPend_rcd (x : Pending) : (s.setPend x).rcd = s.rcd := rfl
@[simp] theorem State.setPend_extcnt (x : Pending) : (s.setPend x).extcnt = s.extcnt := rfl
@[simp] theorem State.setPend_lastIrq (x : Pending) : (s.setPend x).lastIrq = s.lastIrq := rfl
@[simp] theorem State.setPend_script (x : Pending) : (s.setPend x).script = s.script := rfl
@[simp] theorem State.setPend_requests (x : Pending) : (s.setPend x).requests = s.requests := rfl
@[simp] theorem State.setPend_calls (x : Pending) : (s.setPend x).calls = s.calls := rfl
@[simp] theorem State.setPend_reply (x : Pending) : (s.setPend x).reply = s.reply := rfl
@[simp] theorem State.setPend_cfg (x : Pending) : (s.setPend x).cfg = s.cfg := rfl

@[simp] theorem State.setMp_car (x : Micro) : (s.setMp x).car = s.car := rfl
@[simp] theorem State.setMp_kar (x : Micro) : (s.setMp x).kar = s.kar := rfl
@[simp] theorem State.setMp_pic (x : Micro) : (s.setMp x).pic = s.pic := rfl
@[simp] theorem State.setMp_palette (x : Micro) : (s.setMp x).palette = s.palette := rfl
@[simp] theorem State.setMp_timing (x : Micro) : (s.setMp x).timing = s.timing := rfl
@[simp] theorem State.setMp_rc (x : Micro) : (s.setMp x).rc = s.rc := rfl
@[simp] theorem State.setMp_scsi (x : Micro) : (s.setMp x).scsi = s.scsi := rfl
@[simp] theorem State.setMp_dma (x : Micro) : (s.setMp x).dma = s.dma := rfl
@[simp] theorem State.setMp_play (x : Micro) : (s.setMp x).play = s.play := rfl
@[simp] theorem State.setMp_ovl (x : Micro) : (s.setMp x).ovl = s.ovl := rfl
@[simp] theorem State.setMp_pend (x : Micro) : (s.setMp x).pend = s.pend := rfl
@[simp] theorem State.setMp_mp (x : Micro) : (s.setMp x).mp = x := rfl
@[simp] theorem State.setMp_bg (x : Micro) : (s.setMp x).bg = s.bg := rfl
@[simp] theorem State.setMp_kctl (x : Micro) : (s.setMp x).kctl = s.kctl := rfl
@[simp] theorem State.setMp_kram (x : Micro) : (s.setMp x).kram = s.kram := rfl
@[simp] theorem State.setMp_line (x : Micro) : (s.setMp x).line = s.line := rfl
@[simp] theorem State.setMp_out (x : Micro) : (s.setMp x).out = s.out := rfl
@[simp] theorem State.setMp_pcache (x : Micro) : (s.setMp x).pcache = s.pcache := rfl
@[simp] theorem State.setMp_rcd (x : Micro) : (s.setMp x).rcd = s.rcd := rfl
@[simp] theorem State.setMp_extcnt (x : Micro) : (s.setMp x).extcnt = s.extcnt := rfl
@[simp] theorem State.setMp_lastIrq (x : Micro) : (s.setMp x).lastIrq = s.lastIrq := rfl
@[simp] theorem State.setMp_script (x : Micro) : (s.setMp x).script = s.script := rfl
@[simp] theorem State.setMp_requests (x : Micro) : (s.setMp x).requests = s.requests := rfl
@[simp] theorem State.setMp_calls (x : Micro) : (s.setMp x).calls = s.calls := rfl
@[simp] theorem State.setMp_reply (x : Micro) : (s.setMp x).reply = s.reply := rfl
@[simp] theorem State.setMp_cfg (x : Micro) : (s.setMp x).cfg = s.cfg := rfl

@[simp] theorem State.setBg_car (x : BgRegs) : (s.setBg x).car = s.car := rfl
@[simp] theorem State.setBg_kar (x : BgRegs) : (s.setBg x).kar = s.kar := rfl
@[simp] theorem State.setBg_pic (x : BgRegs) : (s.setBg x).pic = s.pic := rfl
@[simp] theorem State.setBg_palette (x : BgRegs) : (s.setBg x).palette = s.palette := rfl
@[simp] theorem State.setBg_timing (x : BgRegs) : (s.setBg x).timing = s.timing := rfl
@[simp] theorem State.setBg_rc (x : BgRegs) : (s.setBg x).rc = s.rc := rfl
@[simp] theorem State.setBg_scsi (x : BgRegs) : (s.setBg x).scsi = s.scsi := rfl
@[simp] theorem State.setBg_dma (x : BgRegs) : (s.setBg x).dma = s.dma := rfl
@[simp] theorem State.setBg_play (x : BgRegs) : (s.setBg x).play = s.play := rfl
@[simp] theorem State.setBg_ovl (x : BgRegs) : (s.setBg x).ovl = s.ovl := rfl
@[simp] theorem State.setBg_pend (x : BgRegs) : (s.setBg x).pend = s.pend := rfl
@[simp] theorem State.setBg_mp (x : BgRegs) : (s.setBg x).mp = s.mp := rfl
@[simp] theorem State.setBg_bg (x : BgRegs) : (s.setBg x).bg = x := rfl
@[simp] theorem State.setBg_kctl (x : BgRegs) : (s.setBg x).kctl = s.kctl := rfl
@[simp] theorem State.setBg_kram (x : BgRegs) : (s.setBg x).kram = s.kram := rfl
@[simp] theorem State.setBg_line (x : BgRegs) : (s.setBg x).line = s.line := rfl
@[simp] theorem State.setBg_out (x : BgRegs) : (s.setBg x).out = s.out := rfl
@[simp] theorem State.setBg_pcache (x : BgRegs) : (s.setBg x).pcache = s.pcache := rfl
@[simp] theorem State.setBg_rcd (x : BgRegs) : (s.setBg x).rcd = s.rcd := rfl
@[simp] theorem State.setBg_extcnt (x : BgRegs) : (s.setBg x).extcnt = s.extcnt := rfl
@[simp] theorem State.setBg_lastIrq (x : BgRegs) : (s.setBg x).lastIrq = s.lastIrq := rfl
@[simp] theorem State.setBg_script (x : BgRegs) : (s.setBg x).script = s.script := rfl
@[simp] theorem State.setBg_requests (x : BgRegs) : (s.setBg x).requests = s.requests := rfl
@[simp] theorem State.setBg_calls (x : BgRegs) : (s.setBg x).calls = s.calls := rfl
@[simp] theorem State.setBg_reply (x : BgRegs) : (s.setBg x).reply = s.reply := rfl
@[simp] theorem State.setBg_cfg (x : BgRegs) : (s.setBg x).cfg = s.cfg := rfl

@[simp] theorem State.setKctl_car (x : KramCtl) : (s.setKctl x).car = s.car := rfl
@[simp] theorem State.setKctl_kar (x : KramCtl) : (s.setKctl x).kar = s.kar := rfl
@[simp] theorem State.setKctl_pic (x : KramCtl) : (s.setKctl x).pic = s.pic := rfl
@[simp] theorem State.setKctl_palette (x : KramCtl) : (s.setKctl x).palette = s.palette := rfl
@[simp] theorem State.setKctl_timing (x : KramCtl) : (s.setKctl x).timing = s.timing := rfl
@[simp] theorem State.setKctl_rc (x : KramCtl) : (s.setKctl x).rc = s.rc := rfl
@[simp] theorem State.setKctl_scsi (x : KramCtl) : (s.setKctl x).scsi = s.scsi := rfl
@[simp] theorem State.setKctl_dma (x : KramCtl) : (s.setKctl x).dma = s.dma := rfl
@[simp] theorem State.setKctl_play (x : KramCtl) : (s.setKctl x).play = s.play := rfl
@[simp] theorem State.setKctl_ovl (x : KramCtl) : (s.setKctl x).ovl = s.ovl := rfl
@[simp] theorem State.setKctl_pend (x : KramCtl) : (s.setKctl x).pend = s.pend := rfl
@[simp] theorem State.setKctl_mp (x : KramCtl) : (s.setKctl x).mp = s.mp := rfl
@[simp] theorem State.setKctl_bg (x : KramCtl) : (s.setKctl x).bg = s.bg := rfl
@[simp] theorem State.setKctl_kctl (x : KramCtl) : (s.setKctl x).kctl = x := rfl
@[simp] theorem State.setKctl_kram (x : KramCtl) : (s.setKctl x).kram = s.kram := rfl
@[simp] theorem State.setKctl_line (x : KramCtl) : (s.setKctl x).line = s.line := rfl
@[simp] theorem State.setKctl_out (x : KramCtl) : (s.setKctl x).out = s.out := rfl
@[simp] theorem State.setKctl_pcache (x : KramCtl) : (s.setKctl x).pcache = s.pcache := rfl
@[simp] theorem State.setKctl_rcd (x : KramCtl) : (s.setKctl x).rcd = s.rcd := rfl
@[simp] theorem State.setKctl_extcnt (x : KramCtl) : (s.setKctl x).extcnt = s.extcnt := rfl
@[simp] theorem State.setKctl_lastIrq (x : KramCtl) : (s.setKctl x).lastIrq = s.lastIrq := rfl
@[simp] theorem State.setKctl_script (x : KramCtl) : (s.setKctl x).script = s.script := rfl
@[simp] theorem State.setKctl_requests (x : KramCtl) : (s.setKctl x).requests = s.requests := rfl
@[simp] theorem State.setKctl_calls (x : KramCtl) : (s.setKctl x).calls = s.calls := rfl
@[simp] theorem State.setKctl_reply (x : KramCtl) : (s.setKctl x).reply = s.reply := rfl
@[simp] theorem State.setKctl_cfg (x : KramCtl) : (s.setKctl x).cfg = s.cfg := rfl

@[simp] theorem State.setKram_car (x : Memory) : (s.setKram x).car = s.car := rfl
@[simp] theorem State.setKram_kar (x : Memory) : (s.setKram x).kar = s.kar := rfl
@[simp] theorem State.setKram_pic (x : Memory) : (s.setKram x).pic = s.pic := rfl
@[simp] theorem State.setKram_palette (x : Memory) : (s.setKram x).palette = s.palette := rfl
@[simp] theorem State.setKram_timing (x : Memory) : (s.setKram x).timing = s.timing := rfl
@[simp] theorem State.setKram_rc (x : Memory) : (s.setKram x).rc = s.rc := rfl
@[simp] theorem State.setKram_scsi (x : Memory) : (s.setKram x).scsi = s.scsi := rfl
@[simp] theorem State.setKram_dma (x : Memory) : (s.setKram x).dma = s.dma := rfl
@[simp] theorem State.setKram_play (x : Memory) : (s.setKram x).play = s.play := rfl
@[simp] theorem State.setKram_ovl (x : Memory) : (s.setKram x).ovl = s.ovl := rfl
@[simp] theorem State.setKram_pend (x : Memory) : (s.setKram x).pend = s.pend := rfl
@[simp] theorem State.setKram_mp (x : Memory) : (s.setKram x).mp = s.mp := rfl
@[simp] theorem State.setKram_bg (x : Memory) : (s.setKram x).bg = s.bg := rfl
@[simp] theorem State.setKram_kctl (x : Memory) : (s.setKram x).kctl = s.kctl := rfl
@[simp] theorem State.setKram_kram (x : Memory) : (s.setKram x).kram = x := rfl
@[simp] theorem State.setKram_line (x : Memory) : (s.setKram x).line = s.line := rfl
@[simp] theorem State.setKram_out (x : Memory) : (s.setKram x).out = s.out := rfl
@[simp] theorem State.setKram_pcache (x : Memory) : (s.setKram x).pcache = s.pcache := rfl
@[simp] theorem State.setKram_rcd (x : Memory) : (s.setKram x).rcd = s.rcd := rfl
@[simp] theorem State.setKram_extcnt (x : Memory) : (s.setKram x).extcnt = s.extcnt := rfl
@[simp] theorem State.setKram_lastIrq (x : Memory) : (s.setKram x).lastIrq = s.lastIrq := rfl
@[simp] theorem State.setKram_script (x : Memory) : (s.setKram x).script = s.script := rfl
@[simp] theorem State.setKram_requests (x : Memory) : (s.setKram x).requests = s.requests := rfl
@[simp] theorem State.setKram_calls (x : Memory) : (s.setKram x).calls = s.calls := rfl
@[simp] theorem State.setKram_reply (x : Memory) : (s.setKram x).reply = s.reply := rfl
@[simp] theorem State.setKram_cfg (x : Memory) : (s.setKram x).cfg = s.cfg := rfl

@[simp] theorem State.setLine_car (x : LineBufs) : (s.setLine x).car = s.car := rfl
@[simp] theorem State.setLine_kar (x : LineBufs) : (s.setLine x).kar = s.kar := rfl
@[simp] theorem State.setLine_pic (x : LineBufs) : (s.setLine x).pic = s.pic := rfl
@[simp] theorem State.setLine_palette (x : LineBufs) : (s.setLine x).palette = s.palette := rfl
@[simp] theorem State.setLine_timing (x : LineBufs) : (s.setLine x).timing = s.timing := rfl
@[simp] theorem State.setLine_rc (x : LineBufs) : (s.setLine x).rc = s.rc := rfl
@[simp] theorem State.setLine_scsi (x : LineBufs) : (s.setLine x).scsi = s.scsi := rfl
@[simp] theorem State.setLine_dma (x : LineBufs) : (s.setLine x).dma = s.dma := rfl
@[simp] theorem State.setLine_play (x : LineBufs) : (s.setLine x).play = s.play := rfl
@[simp] theorem State.setLine_ovl (x : LineBufs) : (s.setLine x).ovl = s.ovl := rfl
@[simp] theorem State.setLine_pend (x : LineBufs) : (s.setLine x).pend = s.pend := rfl
@[simp] theorem State.setLine_mp (x : LineBufs) : (s.setLine x).mp = s.mp := rfl
@[simp] theorem State.setLine_bg (x : LineBufs) : (s.setLine x).bg = s.bg := rfl
@[simp] theorem State.setLine_kctl (x : LineBufs) : (s.setLine x).kctl = s.kctl := rfl
@[simp] theorem State.setLine_kram (x : LineBufs) : (s.setLine x).kram = s.kram := rfl
@[simp] theorem State.setLine_line (x : LineBufs) : (s.setLine x).line = x := rfl
@[simp] theorem State.setLine_out (x : LineBufs) : (s.setLine x).out = s.out := rfl
@[simp] theorem State.setLine_pcache (x : LineBufs) : (s.setLine x).pcache = s.pcache := rfl
@[simp] theorem State.setLine_rcd (x : LineBufs) : (s.setLine x).rcd = s.rcd := rfl
@[simp] theorem State.setLine_extcnt (x : LineBufs) : (s.setLine x).extcnt = s.extcnt := rfl
@[simp] theorem State.setLine_lastIrq (x : LineBufs) : (s.setLine x).lastIrq = s.lastIrq := rfl
@[simp] theorem State.setLine_script (x : LineBufs) : (s.setLine x).script = s.script := rfl
@[simp] theorem State.setLine_requests (x : LineBufs) : (s.setLine x).requests = s.requests := rfl
@[simp] theorem State.setLine_calls (x : LineBufs) : (s.setLine x).calls = s.calls := rfl
@[simp] theorem State.setLine_reply (x : LineBufs) : (s.setLine x).reply = s.reply := rfl
@[simp] theorem State.setLine_cfg (x : LineBufs) : (s.setLine x).cfg = s.cfg := rfl

@[simp] theorem State.setOut_car (x : Output) : (s.setOut x).car = s.car := rfl
@[simp] theorem State.setOut_kar (x : Output) : (s.setOut x).kar = s.kar := rfl
@[simp] theorem State.setOut_pic (x : Output) : (s.setOut x).pic = s.pic := rfl
@[simp] theorem State.setOut_palette (x : Output) : (s.setOut x).palette = s.palette := rfl
@[simp] theorem State.setOut_timing (x : Output) : (s.setOut x).timing = s.timing := rfl
@[simp] theorem State.setOut_rc (x : Output) : (s.setOut x).rc = s.rc := rfl
@[simp] theorem State.setOut_scsi (x : Output) : (s.setOut x).scsi = s.scsi := rfl
@[simp] theorem State.setOut_dma (x : Output) : (s.setOut x).dma = s.dma := rfl
@[simp] theorem State.setOut_play (x : Output) : (s.setOut x).play = s.play := rfl
@[simp] theorem State.setOut_ovl (x : Output) : (s.setOut x).ovl = s.ovl := rfl
@[simp] theorem State.setOut_pend (x : Output) : (s.setOut x).pend = s.pend := rfl
@[simp] theorem State.setOut_mp (x : Output) : (s.setOut x).mp = s.mp := rfl
@[simp] theorem State.setOut_bg (x : Output) : (s.setOut x).bg = s.bg := rfl
@[simp] theorem State.setOut_kctl (x : Output) : (s.setOut x).kctl = s.kctl := rfl
@[simp] theorem State.setOut_kram (x : Output) : (s.setOut x).kram = s.kram := rfl
@[simp] theorem State.setOut_line (x : Output) : (s.setOut x).line = s.line := rfl
@[simp] theorem State.setOut_out (x : Output) : (s.setOut x).out = x := rfl
@[simp] theorem State.setOut_pcache (x : Output) : (s.setOut x).pcache = s.pcache := rfl
@[simp] theorem State.setOut_rcd (x : Output) : (s.setOut x).rcd = s.rcd := rfl
@[simp] theorem State.setOut_extcnt (x : Output) : (s.setOut x).extcnt = s.extcnt := rfl
@[simp] theorem State.setOut_lastIrq (x : Output) : (s.setOut x).lastIrq = s.lastIrq := rfl
@[simp] theorem State.setOut_script (x : Output) : (s.setOut x).script = s.script := rfl
@[simp] theorem State.setOut_requests (x : Output) : (s.setOut x).requests = s.requests := rfl
@[simp] theorem State.setOut_calls (x : Output) : (s.setOut x).calls = s.calls := rfl
@[simp] theorem State.setOut_reply (x : Output) : (s.setOut x).reply = s.reply := rfl
@[simp] theorem State.setOut_cfg (x : Output) : (s.setOut x).cfg = s.cfg := rfl

@[simp] theorem State.setPcache_car (x : Vector Yuv24 1024) : (s.setPcache x).car = s.car := rfl
@[simp] theorem State.setPcache_kar (x : Vector Yuv24 1024) : (s.setPcache x).kar = s.kar := rfl
@[simp] theorem State.setPcache_pic (x : Vector Yuv24 1024) : (s.setPcache x).pic = s.pic := rfl
@[simp] theorem State.setPcache_palette (x : Vector Yuv24 1024) : (s.setPcache x).palette = s.palette := rfl
@[simp] theorem State.setPcache_timing (x : Vector Yuv24 1024) : (s.setPcache x).timing = s.timing := rfl
@[simp] theorem State.setPcache_rc (x : Vector Yuv24 1024) : (s.setPcache x).rc = s.rc := rfl
@[simp] theorem State.setPcache_scsi (x : Vector Yuv24 1024) : (s.setPcache x).scsi = s.scsi := rfl
@[simp] theorem State.setPcache_dma (x : Vector Yuv24 1024) : (s.setPcache x).dma = s.dma := rfl
@[simp] theorem State.setPcache_play (x : Vector Yuv24 1024) : (s.setPcache x).play = s.play := rfl
@[simp] theorem State.setPcache_ovl (x : Vector Yuv24 1024) : (s.setPcache x).ovl = s.ovl := rfl
@[simp] theorem State.setPcache_pend (x : Vector Yuv24 1024) : (s.setPcache x).pend = s.pend := rfl
@[simp] theorem State.setPcache_mp (x : Vector Yuv24 1024) : (s.setPcache x).mp = s.mp := rfl
@[simp] theorem State.setPcache_bg (x : Vector Yuv24 1024) : (s.setPcache x).bg = s.bg := rfl
@[simp] theorem State.setPcache_kctl (x : Vector Yuv24 1024) : (s.setPcache x).kctl = s.kctl := rfl
@[simp] theorem State.setPcache_kram (x : Vector Yuv24 1024) : (s.setPcache x).kram = s.kram := rfl
@[simp] theorem State.setPcache_line (x : Vector Yuv24 1024) : (s.setPcache x).line = s.line := rfl
@[simp] theorem State.setPcache_out (x : Vector Yuv24 1024) : (s.setPcache x).out = s.out := rfl
@[simp] theorem State.setPcache_pcache (x : Vector Yuv24 1024) : (s.setPcache x).pcache = x := rfl
@[simp] theorem State.setPcache_rcd (x : Vector Yuv24 1024) : (s.setPcache x).rcd = s.rcd := rfl
@[simp] theorem State.setPcache_extcnt (x : Vector Yuv24 1024) : (s.setPcache x).extcnt = s.extcnt := rfl
@[simp] theorem State.setPcache_lastIrq (x : Vector Yuv24 1024) : (s.setPcache x).lastIrq = s.lastIrq := rfl
@[simp] theorem State.setPcache_script (x : Vector Yuv24 1024) : (s.setPcache x).script = s.script := rfl
@[simp] theorem State.setPcache_requests (x : Vector Yuv24 1024) : (s.setPcache x).requests = s.requests := rfl
@[simp] theorem State.setPcache_calls (x : Vector Yuv24 1024) : (s.setPcache x).calls = s.calls := rfl
@[simp] theorem State.setPcache_reply (x : Vector Yuv24 1024) : (s.setPcache x).reply = s.reply := rfl
@[simp] theorem State.setPcache_cfg (x : Vector Yuv24 1024) : (s.setPcache x).cfg = s.cfg := rfl

@[simp] theorem State.setRcd_car (x : RenderDerived) : (s.setRcd x).car = s.car := rfl
@[simp] theorem State.setRcd_kar (x : RenderDerived) : (s.setRcd x).kar = s.kar := rfl
@[simp] theorem State.setRcd_pic (x : RenderDerived) : (s.setRcd x).pic = s.pic := rfl
@[simp] theorem State.setRcd_palette (x : RenderDerived) : (s.setRcd x).palette = s.palette := rfl
@[simp] theorem State.setRcd_timing (x : RenderDerived) : (s.setRcd x).timing = s.timing := rfl
@[simp] theorem State.setRcd_rc (x : RenderDerived) : (s.setRcd x).rc = s.rc := rfl
@[simp] theorem State.setRcd_scsi (x : RenderDerived) : (s.setRcd x).scsi = s.scsi := rfl
@[simp] theorem State.setRcd_dma (x : RenderDerived) : (s.setRcd x).dma = s.dma := rfl
@[simp] theorem State.setRcd_play (x : RenderDerived) : (s.setRcd x).play = s.play := rfl
@[simp] theorem State.setRcd_ovl (x : RenderDerived) : (s.setRcd x).ovl = s.ovl := rfl
@[simp] theorem State.setRcd_pend (x : RenderDerived) : (s.setRcd x).pend = s.pend := rfl
@[simp] theorem State.setRcd_mp (x : RenderDerived) : (s.setRcd x).mp = s.mp := rfl
@[simp] theorem State.setRcd_bg (x : RenderDerived) : (s.setRcd x).bg = s.bg := rfl
@[simp] theorem State.setRcd_kctl (x : RenderDerived) : (s.setRcd x).kctl = s.kctl := rfl
@[simp] theorem State.setRcd_kram (x : RenderDerived) : (s.setRcd x).kram = s.kram := rfl
@[simp] theorem State.setRcd_line (x : RenderDerived) : (s.setRcd x).line = s.line := rfl
@[simp] theorem State.setRcd_out (x : RenderDerived) : (s.setRcd x).out = s.out := rfl
@[simp] theorem State.setRcd_pcache (x : RenderDerived) : (s.setRcd x).pcache = s.pcache := rfl
@[simp] theorem State.setRcd_rcd (x : RenderDerived) : (s.setRcd x).rcd = x := rfl
@[simp] theorem State.setRcd_extcnt (x : RenderDerived) : (s.setRcd x).extcnt = s.extcnt := rfl
@[simp] theorem State.setRcd_lastIrq (x : RenderDerived) : (s.setRcd x).lastIrq = s.lastIrq := rfl
@[simp] theorem State.setRcd_script (x : RenderDerived) : (s.setRcd x).script = s.script := rfl
@[simp] theorem State.setRcd_requests (x : RenderDerived) : (s.setRcd x).requests = s.requests := rfl
@[simp] theorem State.setRcd_calls (x : RenderDerived) : (s.setRcd x).calls = s.calls := rfl
@[simp] theorem State.setRcd_reply (x : RenderDerived) : (s.setRcd x).reply = s.reply := rfl
@[simp] theorem State.setRcd_cfg (x : RenderDerived) : (s.setRcd x).cfg = s.cfg := rfl

@[simp] theorem State.setExtcnt_car (x : Option Nat) : (s.setExtcnt x).car = s.car := rfl
@[simp] theorem State.setExtcnt_kar (x : Option Nat) : (s.setExtcnt x).kar = s.kar := rfl
@[simp] theorem State.setExtcnt_pic (x : Option Nat) : (s.setExtcnt x).pic = s.pic := rfl
@[simp] theorem State.setExtcnt_palette (x : Option Nat) : (s.setExtcnt x).palette = s.palette := rfl
@[simp] theorem State.setExtcnt_timing (x : Option Nat) : (s.setExtcnt x).timing = s.timing := rfl
@[simp] theorem State.setExtcnt_rc (x : Option Nat) : (s.setExtcnt x).rc = s.rc := rfl
@[simp] theorem State.setExtcnt_scsi (x : Option Nat) : (s.setExtcnt x).scsi = s.scsi := rfl
@[simp] theorem State.setExtcnt_dma (x : Option Nat) : (s.setExtcnt x).dma = s.dma := rfl
@[simp] theorem State.setExtcnt_play (x : Option Nat) : (s.setExtcnt x).play = s.play := rfl
@[simp] theorem State.setExtcnt_ovl (x : Option Nat) : (s.setExtcnt x).ovl = s.ovl := rfl
@[simp] theorem State.setExtcnt_pend (x : Option Nat) : (s.setExtcnt x).pend = s.pend := rfl
@[simp] theorem State.setExtcnt_mp (x : Option Nat) : (s.setExtcnt x).mp = s.mp := rfl
@[simp] theorem State.setExtcnt_bg (x : Option Nat) : (s.setExtcnt x).bg = s.bg := rfl
@[simp] theorem State.setExtcnt_kctl (x : Option Nat) : (s.setExtcnt x).kctl = s.kctl := rfl
@[simp] theorem State.setExtcnt_kram (x : Option Nat) : (s.setExtcnt x).kram = s.kram := rfl
@[simp] theorem State.setExtcnt_line (x : Option Nat) : (s.setExtcnt x).line = s.line := rfl
@[simp] theorem State.setExtcnt_out (x : Option Nat) : (s.setExtcnt x).out = s.out := rfl
@[simp] theorem State.setExtcnt_pcache (x : Option Nat) : (s.setExtcnt x).pcache = s.pcache := rfl
@[simp] theorem State.setExtcnt_rcd (x : Option Nat) : (s.setExtcnt x).rcd = s.rcd := rfl
@[simp] theorem State.setExtcnt_extcnt (x : Option Nat) : (s.setExtcnt x).extcnt = x := rfl
@[simp] theorem State.setExtcnt_lastIrq (x : Option Nat) : (s.setExtcnt x).lastIrq = s.lastIrq := rfl
@[simp] theorem State.setExtcnt_script (x : Option Nat) : (s.setExtcnt x).script = s.script := rfl
@[simp] theorem State.setExtcnt_requests (x : Option Nat) : (s.setExtcnt x).requests = s.requests := rfl
@[simp] theorem State.setExtcnt_calls (x : Option Nat) : (s.setExtcnt x).calls = s.calls := rfl
@[simp] theorem State.setExtcnt_reply (x : Option Nat) : (s.setExtcnt x).reply = s.reply := rfl
@[simp] theorem State.setExtcnt_cfg (x : Option Nat) : (s.setExtcnt x).cfg = s.cfg := rfl

@[simp] theorem State.setLastIrq_car (x : Bool) : (s.setLastIrq x).car = s.car := rfl
@[simp] theorem State.setLastIrq_kar (x : Bool) : (s.setLastIrq x).kar = s.kar := rfl
@[simp] theorem State.setLastIrq_pic (x : Bool) : (s.setLastIrq x).pic = s.pic := rfl
@[simp] theorem State.setLastIrq_palette (x : Bool) : (s.setLastIrq x).palette = s.palette := rfl
@[simp] theorem State.setLastIrq_timing (x : Bool) : (s.setLastIrq x).timing = s.timing := rfl
@[simp] theorem State.setLastIrq_rc (x : Bool) : (s.setLastIrq x).rc = s.rc := rfl
@[simp] theorem State.setLastIrq_scsi (x : Bool) : (s.setLastIrq x).scsi = s.scsi := rfl
@[simp] theorem State.setLastIrq_dma (x : Bool) : (s.setLastIrq x).dma = s.dma := rfl
@[simp] theorem State.setLastIrq_play (x : Bool) : (s.setLastIrq x).play = s.play := rfl
@[simp] theorem State.setLastIrq_ovl (x : Bool) : (s.setLastIrq x).ovl = s.ovl := rfl
@[simp] theorem State.setLastIrq_pend (x : Bool) : (s.setLastIrq x).pend = s.pend := rfl
@[simp] theorem State.setLastIrq_mp (x : Bool) : (s.setLastIrq x).mp = s.mp := rfl
@[simp] theorem State.setLastIrq_bg (x : Bool) : (s.setLastIrq x).bg = s.bg := rfl
@[simp] theorem State.setLastIrq_kctl (x : Bool) : (s.setLastIrq x).kctl = s.kctl := rfl
@[simp] theorem State.setLastIrq_kram (x : Bool) : (s.setLastIrq x).kram = s.kram := rfl
@[simp] theorem State.setLastIrq_line (x : Bool) : (s.setLastIrq x).line = s.line := rfl
@[simp] theorem State.setLastIrq_out (x : Bool) : (s.setLastIrq x).out = s.out := rfl
@[simp] theorem State.setLastIrq_pcache (x : Bool) : (s.setLastIrq x).pcache = s.pcache := rfl
@[simp] theorem State.setLastIrq_rcd (x : Bool) : (s.setLastIrq x).rcd = s.rcd := rfl
@[simp] theorem State.setLastIrq_extcnt (x : Bool) : (s.setLastIrq x).extcnt = s.extcnt := rfl
@[simp] theorem State.setLastIrq_lastIrq (x : Bool) : (s.setLastIrq x).lastIrq = x := rfl
@[simp] theorem State.setLastIrq_script (x : Bool) : (s.setLastIrq x).script = s.script := rfl
@[simp] theorem State.setLastIrq_requests (x : Bool) : (s.setLastIrq x).requests = s.requests := rfl
@[simp] theorem State.setLastIrq_calls (x : Bool) : (s.setLastIrq x).calls = s.calls := rfl
@[simp] theorem State.setLastIrq_reply (x : Bool) : (s.setLastIrq x).reply = s.reply := rfl
@[simp] theorem State.setLastIrq_cfg (x : Bool) : (s.setLastIrq x).cfg = s.cfg := rfl

@[simp] theorem State.setScript_car (x : Script) : (s.setScript x).car = s.car := rfl
@[simp] theorem State.setScript_kar (x : Script) : (s.setScript x).kar = s.kar := rfl
@[simp] theorem State.setScript_pic (x : Script) : (s.setScript x).pic = s.pic := rfl
@[simp] theorem State.setScript_palette (x : Script) : (s.setScript x).palette = s.palette := rfl
@[simp] theorem State.setScript_timing (x : Script) : (s.setScript x).timing = s.timing := rfl
@[simp] theorem State.setScript_rc (x : Script) : (s.setScript x).rc = s.rc := rfl
@[simp] theorem State.setScript_scsi (x : Script) : (s.setScript x).scsi = s.scsi := rfl
@[simp] theorem State.setScript_dma (x : Script) : (s.setScript x).dma = s.dma := rfl
@[simp] theorem State.setScript_play (x : Script) : (s.setScript x).play = s.play := rfl
@[simp] theorem State.setScript_ovl (x : Script) : (s.setScript x).ovl = s.ovl := rfl
@[simp] theorem State.setScript_pend (x : Script) : (s.setScript x).pend = s.pend := rfl
@[simp] theorem State.setScript_mp (x : Script) : (s.setScript x).mp = s.mp := rfl
@[simp] theorem State.setScript_bg (x : Script) : (s.setScript x).bg = s.bg := rfl
@[simp] theorem State.setScript_kctl (x : Script) : (s.setScript x).kctl = s.kctl := rfl
@[simp] theorem State.setScript_kram (x : Script) : (s.setScript x).kram = s.kram := rfl
@[simp] theorem State.setScript_line (x : Script) : (s.setScript x).line = s.line := rfl
@[simp] theorem State.setScript_out (x : Script) : (s.setScript x).out = s.out := rfl
@[simp] theorem State.setScript_pcache (x : Script) : (s.setScript x).pcache = s.pcache := rfl
@[simp] theorem State.setScript_rcd (x : Script) : (s.setScript x).rcd = s.rcd := rfl
@[simp] theorem State.setScript_extcnt (x : Script) : (s.setScript x).extcnt = s.extcnt := rfl
@[simp] theorem State.setScript_lastIrq (x : Script) : (s.setScript x).lastIrq = s.lastIrq := rfl
@[simp] theorem State.setScript_script (x : Script) : (s.setScript x).script = x := rfl
@[simp] theorem State.setScript_requests (x : Script) : (s.setScript x).requests = s.requests := rfl
@[simp] theorem State.setScript_calls (x : Script) : (s.setScript x).calls = s.calls := rfl
@[simp] theorem State.setScript_reply (x : Script) : (s.setScript x).reply = s.reply := rfl
@[simp] theorem State.setScript_cfg (x : Script) : (s.setScript x).cfg = s.cfg := rfl

@[simp] theorem State.setRequests_car (x : List Request) : (s.setRequests x).car = s.car := rfl
@[simp] theorem State.setRequests_kar (x : List Request) : (s.setRequests x).kar = s.kar := rfl
@[simp] theorem State.setRequests_pic (x : List Request) : (s.setRequests x).pic = s.pic := rfl
@[simp] theorem State.setRequests_palette (x : List Request) : (s.setRequests x).palette = s.palette := rfl
@[simp] theorem State.setRequests_timing (x : List Request) : (s.setRequests x).timing = s.timing := rfl
@[simp] theorem State.setRequests_rc (x : List Request) : (s.setRequests x).rc = s.rc := rfl
@[simp] theorem State.setRequests_scsi (x : List Request) : (s.setRequests x).scsi = s.scsi := rfl
@[simp] theorem State.setRequests_dma (x : List Request) : (s.setRequests x).dma = s.dma := rfl
@[simp] theorem State.setRequests_play (x : List Request) : (s.setRequests x).play = s.play := rfl
@[simp] theorem State.setRequests_ovl (x : List Request) : (s.setRequests x).ovl = s.ovl := rfl
@[simp] theorem State.setRequests_pend (x : List Request) : (s.setRequests x).pend = s.pend := rfl
@[simp] theorem State.setRequests_mp (x : List Request) : (s.setRequests x).mp = s.mp := rfl
@[simp] theorem State.setRequests_bg (x : List Request) : (s.setRequests x).bg = s.bg := rfl
@[simp] theorem State.setRequests_kctl (x : List Request) : (s.setRequests x).kctl = s.kctl := rfl
@[simp] theorem State.setRequests_kram (x : List Request) : (s.setRequests x).kram = s.kram := rfl
@[simp] theorem State.setRequests_line (x : List Request) : (s.setRequests x).line = s.line := rfl
@[simp] theorem State.setRequests_out (x : List Request) : (s.setRequests x).out = s.out := rfl
@[simp] theorem State.setRequests_pcache (x : List Request) : (s.setRequests x).pcache = s.pcache := rfl
@[simp] theorem State.setRequests_rcd (x : List Request) : (s.setRequests x).rcd = s.rcd := rfl
@[simp] theorem State.setRequests_extcnt (x : List Request) : (s.setRequests x).extcnt = s.extcnt := rfl
@[simp] theorem State.setRequests_lastIrq (x : List Request) : (s.setRequests x).lastIrq = s.lastIrq := rfl
@[simp] theorem State.setRequests_script (x : List Request) : (s.setRequests x).script = s.script := rfl
@[simp] theorem State.setRequests_requests (x : List Request) : (s.setRequests x).requests = x := rfl
@[simp] theorem State.setRequests_calls (x : List Request) : (s.setRequests x).calls = s.calls := rfl
@[simp] theorem State.setRequests_reply (x : List Request) : (s.setRequests x).reply = s.reply := rfl
@[simp] theorem State.setRequests_cfg (x : List Request) : (s.setRequests x).cfg = s.cfg := rfl

@[simp] theorem State.setCalls_car (x : List Call) : (s.setCalls x).car = s.car := rfl
@[simp] theorem State.setCalls_kar (x : List Call) : (s.setCalls x).kar = s.kar := rfl
@[simp] theorem State.setCalls_pic (x : List Call) : (s.setCalls x).pic = s.pic := rfl
@[simp] theorem State.setCalls_palette (x : List Call) : (s.setCalls x).palette = s.palette := rfl
@[simp] theorem State.setCalls_timing (x : List Call) : (s.setCalls x).timing = s.timing := rfl
@[simp] theorem State.setCalls_rc (x : List Call) : (s.setCalls x).rc = s.rc := rfl
@[simp] theorem State.setCalls_scsi (x : List Call) : (s.setCalls x).scsi = s.scsi := rfl
@[simp] theorem State.setCalls_dma (x : List Call) : (s.setCalls x).dma = s.dma := rfl
@[simp] theorem State.setCalls_play (x : List Call) : (s.setCalls x).play = s.play := rfl
@[simp] theorem State.setCalls_ovl (x : List Call) : (s.setCalls x).ovl = s.ovl := rfl
@[simp] theorem State.setCalls_pend (x : List Call) : (s.setCalls x).pend = s.pend := rfl
@[simp] theorem State.setCalls_mp (x : List Call) : (s.setCalls x).mp = s.mp := rfl
@[simp] theorem State.setCalls_bg (x : List Call) : (s.setCalls x).bg = s.bg := rfl
@[simp] theorem State.setCalls_kctl (x : List Call) : (s.setCalls x).kctl = s.kctl := rfl
@[simp] theorem State.setCalls_kram (x : List Call) : (s.setCalls x).kram = s.kram := rfl
@[simp] theorem State.setCalls_line (x : List Call) : (s.setCalls x).line = s.line := rfl
@[simp] theorem State.setCalls_out (x : List Call) : (s.setCalls x).out = s.out := rfl
@[simp] theorem State.setCalls_pcache (x : List Call) : (s.setCalls x).pcache = s.pcache := rfl
@[simp] theorem State.setCalls_rcd (x : List Call) : (s.setCalls x).rcd = s.rcd := rfl
@[simp] theorem State.setCalls_extcnt (x : List Call) : (s.setCalls x).extcnt = s.extcnt := rfl
@[simp] theorem State.setCalls_lastIrq (x : List Call) : (s.setCalls x).lastIrq = s.lastIrq := rfl
@[simp] theorem State.setCalls_script (x : List Call) : (s.setCalls x).script = s.script := rfl
@[simp] theorem State.setCalls_requests (x : List Call) : (s.setCalls x).requests = s.requests := rfl
@[simp] theorem State.setCalls_calls (x : List Call) : (s.setCalls x).calls = x := rfl
@[simp] theorem State.setCalls_reply (x : List Call) : (s.setCalls x).reply = s.reply := rfl
@[simp] theorem State.setCalls_cfg (x : List Call) : (s.setCalls x).cfg = s.cfg := rfl

@[simp] theorem State.setReply_car (x : Reply) : (s.setReply x).car = s.car := rfl
@[simp] theorem State.setReply_kar (x : Reply) : (s.setReply x).kar = s.kar := rfl
@[simp] theorem State.setReply_pic (x : Reply) : (s.setReply x).pic = s.pic := rfl
@[simp] theorem State.setReply_palette (x : Reply) : (s.setReply x).palette = s.palette := rfl
@[simp] theorem State.setReply_timing (x : Reply) : (s.setReply x).timing = s.timing := rfl
@[simp] theorem State.setReply_rc (x : Reply) : (s.setReply x).rc = s.rc := rfl
@[simp] theorem State.setReply_scsi (x : Reply) : (s.setReply x).scsi = s.scsi := rfl
@[simp] theorem State.setReply_dma (x : Reply) : (s.setReply x).dma = s.dma := rfl
@[simp] theorem State.setReply_play (x : Reply) : (s.setReply x).play = s.play := rfl
@[simp] theorem State.setReply_ovl (x : Reply) : (s.setReply x).ovl = s.ovl := rfl
@[simp] theorem State.setReply_pend (x : Reply) : (s.setReply x).pend = s.pend := rfl
@[simp] theorem State.setReply_mp (x : Reply) : (s.setReply x).mp = s.mp := rfl
@[simp] theorem State.setReply_bg (x : Reply) : (s.setReply x).bg = s.bg := rfl
@[simp] theorem State.setReply_kctl (x : Reply) : (s.setReply x).kctl = s.kctl := rfl
@[simp] theorem State.setReply_kram (x : Reply) : (s.setReply x).kram = s.kram := rfl
@[simp] theorem State.setReply_line (x : Reply) : (s.setReply x).line = s.line := rfl
@[simp] theorem State.setReply_out (x : Reply) : (s.setReply x).out = s.out := rfl
@[simp] theorem State.setReply_pcache (x : Reply) : (s.setReply x).pcache = s.pcache := rfl
@[simp] theorem State.setReply_rcd (x : Reply) : (s.setReply x).rcd = s.rcd := rfl
@[simp] theorem State.setReply_extcnt (x : Reply) : (s.setReply x).extcnt = s.extcnt := rfl
@[simp] theorem State.setReply_lastIrq (x : Reply) : (s.setReply x).lastIrq = s.lastIrq := rfl
@[simp] theorem State.setReply_script (x : Reply) : (s.setReply x).script = s.script := rfl
@[simp] theorem State.setReply_requests (x : Reply) : (s.setReply x).requests = s.requests := rfl
@[simp] theorem State.setReply_calls (x : Reply) : (s.setReply x).calls = s.calls := rfl
@[simp] theorem State.setReply_reply (x : Reply) : (s.setReply x).reply = x := rfl
@[simp] theorem State.setReply_cfg (x : Reply) : (s.setReply x).cfg = s.cfg := rfl

@[simp] theorem State.setSnapshot_car (x : Snapshot) : (s.setSnapshot x).car = x.car := rfl
@[simp] theorem State.setSnapshot_kar (x : Snapshot) : (s.setSnapshot x).kar = x.kar := rfl
@[simp] theorem State.setSnapshot_pic (x : Snapshot) : (s.setSnapshot x).pic = x.pic := rfl
@[simp] theorem State.setSnapshot_palette (x : Snapshot) : (s.setSnapshot x).palette = x.palette := rfl
@[simp] theorem State.setSnapshot_timing (x : Snapshot) : (s.setSnapshot x).timing = x.timing := rfl
@[simp] theorem State.setSnapshot_rc (x : Snapshot) : (s.setSnapshot x).rc = x.rc := rfl
@[simp] theorem State.setSnapshot_scsi (x : Snapshot) : (s.setSnapshot x).scsi = x.scsi := rfl
@[simp] theorem State.setSnapshot_dma (x : Snapshot) : (s.setSnapshot x).dma = x.dma := rfl
@[simp] theorem State.setSnapshot_play (x : Snapshot) : (s.setSnapshot x).play = x.play := rfl
@[simp] theorem State.setSnapshot_ovl (x : Snapshot) : (s.setSnapshot x).ovl = x.ovl := rfl
@[simp] theorem State.setSnapshot_pend (x : Snapshot) : (s.setSnapshot x).pend = x.pend := rfl
@[simp] theorem State.setSnapshot_mp (x : Snapshot) : (s.setSnapshot x).mp = x.mp := rfl
@[simp] theorem State.setSnapshot_bg (x : Snapshot) : (s.setSnapshot x).bg = x.bg := rfl
@[simp] theorem State.setSnapshot_kctl (x : Snapshot) : (s.setSnapshot x).kctl = x.kctl := rfl
@[simp] theorem State.setSnapshot_kram (x : Snapshot) : (s.setSnapshot x).kram = x.kram := rfl
@[simp] theorem State.setSnapshot_line (x : Snapshot) : (s.setSnapshot x).line = x.line := rfl
@[simp] theorem State.setSnapshot_out (x : Snapshot) : (s.setSnapshot x).out = x.out := rfl
@[simp] theorem State.setSnapshot_pcache (x : Snapshot) : (s.setSnapshot x).pcache = s.pcache := rfl
@[simp] theorem State.setSnapshot_rcd (x : Snapshot) : (s.setSnapshot x).rcd = s.rcd := rfl
@[simp] theorem State.setSnapshot_extcnt (x : Snapshot) : (s.setSnapshot x).extcnt = s.extcnt := rfl
@[simp] theorem State.setSnapshot_lastIrq (x : Snapshot) : (s.setSnapshot x).lastIrq = s.lastIrq := rfl
@[simp] theorem State.setSnapshot_script (x : Snapshot) : (s.setSnapshot x).script = s.script := rfl
@[simp] theorem State.setSnapshot_requests (x : Snapshot) : (s.setSnapshot x).requests = s.requests := rfl
@[simp] theorem State.setSnapshot_calls (x : Snapshot) : (s.setSnapshot x).calls = s.calls := rfl
@[simp] theorem State.setSnapshot_reply (x : Snapshot) : (s.setSnapshot x).reply = s.reply := rfl
@[simp] theorem State.setSnapshot_cfg (x : Snapshot) : (s.setSnapshot x).cfg = s.cfg := rfl
@[simp] theorem State.setSnapshot_toSnapshot (x : Snapshot) : (s.setSnapshot x).toSnapshot = x := rfl
@[simp] theorem State.setPcache_toSnapshot (x) : (s.setPcache x).toSnapshot = s.toSnapshot := rfl
@[simp] theorem State.setRcd_toSnapshot (x) : (s.setRcd x).toSnapshot = s.toSnapshot := rfl
@[simp] theorem State.setExtcnt_toSnapshot (x) : (s.setExtcnt x).toSnapshot = s.toSnapshot := rfl
@[simp] theorem State.setLastIrq_toSnapshot (x) : (s.setLastIrq x).toSnapshot = s.toSnapshot := rfl
@[simp] theorem State.setScript_toSnapshot (x) : (s.setScript x).toSnapshot = s.toSnapshot := rfl
@[simp] theorem State.setRequests_toSnapshot (x) : (s.setRequests x).toSnapshot = s.toSnapshot := rfl
@[simp] theorem State.setCalls_toSnapshot (x) : (s.setCalls x).toSnapshot = s.toSnapshot := rfl
@[simp] theorem State.setReply_toSnapshot (x) : (s.setReply x).toSnapshot = s.toSnapshot := rfl

end Sys2Proof.Machine
end

