-- ==== Sys2Proof/Laws/Ops.lean ====
section
/-! SUPPORT. What each shared operation of Machine/Ops.lean leaves alone, one lemma per field, and what it changes. -/

namespace Sys2Proof.Machine

variable (s : State)

/-! Calls and answers: only the queued answers and the record of calls change. -/

@[simp] theorem call_car (c : Call) : (call s c).car = s.car := rfl
@[simp] theorem call_kar (c : Call) : (call s c).kar = s.kar := rfl
@[simp] theorem call_pic (c : Call) : (call s c).pic = s.pic := rfl
@[simp] theorem call_palette (c : Call) : (call s c).palette = s.palette := rfl
@[simp] theorem call_timing (c : Call) : (call s c).timing = s.timing := rfl
@[simp] theorem call_rc (c : Call) : (call s c).rc = s.rc := rfl
@[simp] theorem call_scsi (c : Call) : (call s c).scsi = s.scsi := rfl
@[simp] theorem call_dma (c : Call) : (call s c).dma = s.dma := rfl
@[simp] theorem call_play (c : Call) : (call s c).play = s.play := rfl
@[simp] theorem call_ovl (c : Call) : (call s c).ovl = s.ovl := rfl
@[simp] theorem call_pend (c : Call) : (call s c).pend = s.pend := rfl
@[simp] theorem call_mp (c : Call) : (call s c).mp = s.mp := rfl
@[simp] theorem call_bg (c : Call) : (call s c).bg = s.bg := rfl
@[simp] theorem call_kctl (c : Call) : (call s c).kctl = s.kctl := rfl
@[simp] theorem call_kram (c : Call) : (call s c).kram = s.kram := rfl
@[simp] theorem call_line (c : Call) : (call s c).line = s.line := rfl
@[simp] theorem call_out (c : Call) : (call s c).out = s.out := rfl
@[simp] theorem call_pcache (c : Call) : (call s c).pcache = s.pcache := rfl
@[simp] theorem call_rcd (c : Call) : (call s c).rcd = s.rcd := rfl
@[simp] theorem call_extcnt (c : Call) : (call s c).extcnt = s.extcnt := rfl
@[simp] theorem call_lastIrq (c : Call) : (call s c).lastIrq = s.lastIrq := rfl
@[simp] theorem call_cfg (c : Call) : (call s c).cfg = s.cfg := rfl
@[simp] theorem call_script (c : Call) : (call s c).script = s.script := rfl
@[simp] theorem call_requests (c : Call) : (call s c).requests = s.requests := rfl
@[simp] theorem call_reply (c : Call) : (call s c).reply = s.reply := rfl

@[simp] theorem call_calls (c : Call) : (call s c).calls = c :: s.calls := rfl

@[simp] theorem takeLevel_car : ((takeLevel s).2).car = s.car := by
  unfold takeLevel; split <;> rfl
@[simp] theorem takeLevel_kar : ((takeLevel s).2).kar = s.kar := by
  unfold takeLevel; split <;> rfl
@[simp] theorem takeLevel_pic : ((takeLevel s).2).pic = s.pic := by
  unfold takeLevel; split <;> rfl
@[simp] theorem takeLevel_palette : ((takeLevel s).2).palette = s.palette := by
  unfold takeLevel; split <;> rfl
@[simp] theorem takeLevel_timing : ((takeLevel s).2).timing = s.timing := by
  unfold takeLevel; split <;> rfl
@[simp] theorem takeLevel_rc : ((takeLevel s).2).rc = s.rc := by
  unfold takeLevel; split <;> rfl
@[simp] theorem takeLevel_scsi : ((takeLevel s).2).scsi = s.scsi := by
  unfold takeLevel; split <;> rfl
@[simp] theorem takeLevel_dma : ((takeLevel s).2).dma = s.dma := by
  unfold takeLevel; split <;> rfl
@[simp] theorem takeLevel_play : ((takeLevel s).2).play = s.play := by
  unfold takeLevel; split <;> rfl
@[simp] theorem takeLevel_ovl : ((takeLevel s).2).ovl = s.ovl := by
  unfold takeLevel; split <;> rfl
@[simp] theorem takeLevel_pend : ((takeLevel s).2).pend = s.pend := by
  unfold takeLevel; split <;> rfl
@[simp] theorem takeLevel_mp : ((takeLevel s).2).mp = s.mp := by
  unfold takeLevel; split <;> rfl
@[simp] theorem takeLevel_bg : ((takeLevel s).2).bg = s.bg := by
  unfold takeLevel; split <;> rfl
@[simp] theorem takeLevel_kctl : ((takeLevel s).2).kctl = s.kctl := by
  unfold takeLevel; split <;> rfl
@[simp] theorem takeLevel_kram : ((takeLevel s).2).kram = s.kram := by
  unfold takeLevel; split <;> rfl
@[simp] theorem takeLevel_line : ((takeLevel s).2).line = s.line := by
  unfold takeLevel; split <;> rfl
@[simp] theorem takeLevel_out : ((takeLevel s).2).out = s.out := by
  unfold takeLevel; split <;> rfl
@[simp] theorem takeLevel_pcache : ((takeLevel s).2).pcache = s.pcache := by
  unfold takeLevel; split <;> rfl
@[simp] theorem takeLevel_rcd : ((takeLevel s).2).rcd = s.rcd := by
  unfold takeLevel; split <;> rfl
@[simp] theorem takeLevel_extcnt : ((takeLevel s).2).extcnt = s.extcnt := by
  unfold takeLevel; split <;> rfl
@[simp] theorem takeLevel_lastIrq : ((takeLevel s).2).lastIrq = s.lastIrq := by
  unfold takeLevel; split <;> rfl
@[simp] theorem takeLevel_cfg : ((takeLevel s).2).cfg = s.cfg := by
  unfold takeLevel; split <;> rfl
@[simp] theorem takeLevel_requests : ((takeLevel s).2).requests = s.requests := by
  unfold takeLevel; split <;> rfl
@[simp] theorem takeLevel_calls : ((takeLevel s).2).calls = s.calls := by
  unfold takeLevel; split <;> rfl
@[simp] theorem takeLevel_reply : ((takeLevel s).2).reply = s.reply := by
  unfold takeLevel; split <;> rfl

@[simp] theorem busGet_car (l : Line) : ((busGet l s).2).car = s.car := by
  simp [busGet]
@[simp] theorem busGet_kar (l : Line) : ((busGet l s).2).kar = s.kar := by
  simp [busGet]
@[simp] theorem busGet_pic (l : Line) : ((busGet l s).2).pic = s.pic := by
  simp [busGet]
@[simp] theorem busGet_palette (l : Line) : ((busGet l s).2).palette = s.palette := by
  simp [busGet]
@[simp] theorem busGet_timing (l : Line) : ((busGet l s).2).timing = s.timing := by
  simp [busGet]
@[simp] theorem busGet_rc (l : Line) : ((busGet l s).2).rc = s.rc := by
  simp [busGet]
@[simp] theorem busGet_scsi (l : Line) : ((busGet l s).2).scsi = s.scsi := by
  simp [busGet]
@[simp] theorem busGet_dma (l : Line) : ((busGet l s).2).dma = s.dma := by
  simp [busGet]
@[simp] theorem busGet_play (l : Line) : ((busGet l s).2).play = s.play := by
  simp [busGet]
@[simp] theorem busGet_ovl (l : Line) : ((busGet l s).2).ovl = s.ovl := by
  simp [busGet]
@[simp] theorem busGet_pend (l : Line) : ((busGet l s).2).pend = s.pend := by
  simp [busGet]
@[simp] theorem busGet_mp (l : Line) : ((busGet l s).2).mp = s.mp := by
  simp [busGet]
@[simp] theorem busGet_bg (l : Line) : ((busGet l s).2).bg = s.bg := by
  simp [busGet]
@[simp] theorem busGet_kctl (l : Line) : ((busGet l s).2).kctl = s.kctl := by
  simp [busGet]
@[simp] theorem busGet_kram (l : Line) : ((busGet l s).2).kram = s.kram := by
  simp [busGet]
@[simp] theorem busGet_line (l : Line) : ((busGet l s).2).line = s.line := by
  simp [busGet]
@[simp] theorem busGet_out (l : Line) : ((busGet l s).2).out = s.out := by
  simp [busGet]
@[simp] theorem busGet_pcache (l : Line) : ((busGet l s).2).pcache = s.pcache := by
  simp [busGet]
@[simp] theorem busGet_rcd (l : Line) : ((busGet l s).2).rcd = s.rcd := by
  simp [busGet]
@[simp] theorem busGet_extcnt (l : Line) : ((busGet l s).2).extcnt = s.extcnt := by
  simp [busGet]
@[simp] theorem busGet_lastIrq (l : Line) : ((busGet l s).2).lastIrq = s.lastIrq := by
  simp [busGet]
@[simp] theorem busGet_cfg (l : Line) : ((busGet l s).2).cfg = s.cfg := by
  simp [busGet]
@[simp] theorem busGet_requests (l : Line) : ((busGet l s).2).requests = s.requests := by
  simp [busGet]
@[simp] theorem busGet_reply (l : Line) : ((busGet l s).2).reply = s.reply := by
  simp [busGet]

@[simp] theorem busGetData_car : ((busGetData s).2).car = s.car := by
  unfold busGetData; dsimp only; split <;> rfl
@[simp] theorem busGetData_kar : ((busGetData s).2).kar = s.kar := by
  unfold busGetData; dsimp only; split <;> rfl
@[simp] theorem busGetData_pic : ((busGetData s).2).pic = s.pic := by
  unfold busGetData; dsimp only; split <;> rfl
@[simp] theorem busGetData_palette : ((busGetData s).2).palette = s.palette := by
  unfold busGetData; dsimp only; split <;> rfl
@[simp] theorem busGetData_timing : ((busGetData s).2).timing = s.timing := by
  unfold busGetData; dsimp only; split <;> rfl
@[simp] theorem busGetData_rc : ((busGetData s).2).rc = s.rc := by
  unfold busGetData; dsimp only; split <;> rfl
@[simp] theorem busGetData_scsi : ((busGetData s).2).scsi = s.scsi := by
  unfold busGetData; dsimp only; split <;> rfl
@[simp] theorem busGetData_dma : ((busGetData s).2).dma = s.dma := by
  unfold busGetData; dsimp only; split <;> rfl
@[simp] theorem busGetData_play : ((busGetData s).2).play = s.play := by
  unfold busGetData; dsimp only; split <;> rfl
@[simp] theorem busGetData_ovl : ((busGetData s).2).ovl = s.ovl := by
  unfold busGetData; dsimp only; split <;> rfl
@[simp] theorem busGetData_pend : ((busGetData s).2).pend = s.pend := by
  unfold busGetData; dsimp only; split <;> rfl
@[simp] theorem busGetData_mp : ((busGetData s).2).mp = s.mp := by
  unfold busGetData; dsimp only; split <;> rfl
@[simp] theorem busGetData_bg : ((busGetData s).2).bg = s.bg := by
  unfold busGetData; dsimp only; split <;> rfl
@[simp] theorem busGetData_kctl : ((busGetData s).2).kctl = s.kctl := by
  unfold busGetData; dsimp only; split <;> rfl
@[simp] theorem busGetData_kram : ((busGetData s).2).kram = s.kram := by
  unfold busGetData; dsimp only; split <;> rfl
@[simp] theorem busGetData_line : ((busGetData s).2).line = s.line := by
  unfold busGetData; dsimp only; split <;> rfl
@[simp] theorem busGetData_out : ((busGetData s).2).out = s.out := by
  unfold busGetData; dsimp only; split <;> rfl
@[simp] theorem busGetData_pcache : ((busGetData s).2).pcache = s.pcache := by
  unfold busGetData; dsimp only; split <;> rfl
@[simp] theorem busGetData_rcd : ((busGetData s).2).rcd = s.rcd := by
  unfold busGetData; dsimp only; split <;> rfl
@[simp] theorem busGetData_extcnt : ((busGetData s).2).extcnt = s.extcnt := by
  unfold busGetData; dsimp only; split <;> rfl
@[simp] theorem busGetData_lastIrq : ((busGetData s).2).lastIrq = s.lastIrq := by
  unfold busGetData; dsimp only; split <;> rfl
@[simp] theorem busGetData_cfg : ((busGetData s).2).cfg = s.cfg := by
  unfold busGetData; dsimp only; split <;> rfl
@[simp] theorem busGetData_requests : ((busGetData s).2).requests = s.requests := by
  unfold busGetData; dsimp only; split <;> rfl
@[simp] theorem busGetData_reply : ((busGetData s).2).reply = s.reply := by
  unfold busGetData; dsimp only; split <;> rfl

@[simp] theorem busService_car : ((busService s).2).car = s.car := by
  unfold busService; dsimp only; split <;> rfl
@[simp] theorem busService_kar : ((busService s).2).kar = s.kar := by
  unfold busService; dsimp only; split <;> rfl
@[simp] theorem busService_pic : ((busService s).2).pic = s.pic := by
  unfold busService; dsimp only; split <;> rfl
@[simp] theorem busService_palette : ((busService s).2).palette = s.palette := by
  unfold busService; dsimp only; split <;> rfl
@[simp] theorem busService_timing : ((busService s).2).timing = s.timing := by
  unfold busService; dsimp only; split <;> rfl
@[simp] theorem busService_rc : ((busService s).2).rc = s.rc := by
  unfold busService; dsimp only; split <;> rfl
@[simp] theorem busService_scsi : ((busService s).2).scsi = s.scsi := by
  unfold busService; dsimp only; split <;> rfl
@[simp] theorem busService_dma : ((busService s).2).dma = s.dma := by
  unfold busService; dsimp only; split <;> rfl
@[simp] theorem busService_play : ((busService s).2).play = s.play := by
  unfold busService; dsimp only; split <;> rfl
@[simp] theorem busService_ovl : ((busService s).2).ovl = s.ovl := by
  unfold busService; dsimp only; split <;> rfl
@[simp] theorem busService_pend : ((busService s).2).pend = s.pend := by
  unfold busService; dsimp only; split <;> rfl
@[simp] theorem busService_mp : ((busService s).2).mp = s.mp := by
  unfold busService; dsimp only; split <;> rfl
@[simp] theorem busService_bg : ((busService s).2).bg = s.bg := by
  unfold busService; dsimp only; split <;> rfl
@[simp] theorem busService_kctl : ((busService s).2).kctl = s.kctl := by
  unfold busService; dsimp only; split <;> rfl
@[simp] theorem busService_kram : ((busService s).2).kram = s.kram := by
  unfold busService; dsimp only; split <;> rfl
@[simp] theorem busService_line : ((busService s).2).line = s.line := by
  unfold busService; dsimp only; split <;> rfl
@[simp] theorem busService_out : ((busService s).2).out = s.out := by
  unfold busService; dsimp only; split <;> rfl
@[simp] theorem busService_pcache : ((busService s).2).pcache = s.pcache := by
  unfold busService; dsimp only; split <;> rfl
@[simp] theorem busService_rcd : ((busService s).2).rcd = s.rcd := by
  unfold busService; dsimp only; split <;> rfl
@[simp] theorem busService_extcnt : ((busService s).2).extcnt = s.extcnt := by
  unfold busService; dsimp only; split <;> rfl
@[simp] theorem busService_lastIrq : ((busService s).2).lastIrq = s.lastIrq := by
  unfold busService; dsimp only; split <;> rfl
@[simp] theorem busService_cfg : ((busService s).2).cfg = s.cfg := by
  unfold busService; dsimp only; split <;> rfl
@[simp] theorem busService_requests : ((busService s).2).requests = s.requests := by
  unfold busService; dsimp only; split <;> rfl
@[simp] theorem busService_reply : ((busService s).2).reply = s.reply := by
  unfold busService; dsimp only; split <;> rfl

@[simp] theorem busNextEvent_car : ((busNextEvent s).2).car = s.car := by
  unfold busNextEvent; dsimp only; split <;> rfl
@[simp] theorem busNextEvent_kar : ((busNextEvent s).2).kar = s.kar := by
  unfold busNextEvent; dsimp only; split <;> rfl
@[simp] theorem busNextEvent_pic : ((busNextEvent s).2).pic = s.pic := by
  unfold busNextEvent; dsimp only; split <;> rfl
@[simp] theorem busNextEvent_palette : ((busNextEvent s).2).palette = s.palette := by
  unfold busNextEvent; dsimp only; split <;> rfl
@[simp] theorem busNextEvent_timing : ((busNextEvent s).2).timing = s.timing := by
  unfold busNextEvent; dsimp only; split <;> rfl
@[simp] theorem busNextEvent_rc : ((busNextEvent s).2).rc = s.rc := by
  unfold busNextEvent; dsimp only; split <;> rfl
@[simp] theorem busNextEvent_scsi : ((busNextEvent s).2).scsi = s.scsi := by
  unfold busNextEvent; dsimp only; split <;> rfl
@[simp] theorem busNextEvent_dma : ((busNextEvent s).2).dma = s.dma := by
  unfold busNextEvent; dsimp only; split <;> rfl
@[simp] theorem busNextEvent_play : ((busNextEvent s).2).play = s.play := by
  unfold busNextEvent; dsimp only; split <;> rfl
@[simp] theorem busNextEvent_ovl : ((busNextEvent s).2).ovl = s.ovl := by
  unfold busNextEvent; dsimp only; split <;> rfl
@[simp] theorem busNextEvent_pend : ((busNextEvent s).2).pend = s.pend := by
  unfold busNextEvent; dsimp only; split <;> rfl
@[simp] theorem busNextEvent_mp : ((busNextEvent s).2).mp = s.mp := by
  unfold busNextEvent; dsimp only; split <;> rfl
@[simp] theorem busNextEvent_bg : ((busNextEvent s).2).bg = s.bg := by
  unfold busNextEvent; dsimp only; split <;> rfl
@[simp] theorem busNextEvent_kctl : ((busNextEvent s).2).kctl = s.kctl := by
  unfold busNextEvent; dsimp only; split <;> rfl
@[simp] theorem busNextEvent_kram : ((busNextEvent s).2).kram = s.kram := by
  unfold busNextEvent; dsimp only; split <;> rfl
@[simp] theorem busNextEvent_line : ((busNextEvent s).2).line = s.line := by
  unfold busNextEvent; dsimp only; split <;> rfl
@[simp] theorem busNextEvent_out : ((busNextEvent s).2).out = s.out := by
  unfold busNextEvent; dsimp only; split <;> rfl
@[simp] theorem busNextEvent_pcache : ((busNextEvent s).2).pcache = s.pcache := by
  unfold busNextEvent; dsimp only; split <;> rfl
@[simp] theorem busNextEvent_rcd : ((busNextEvent s).2).rcd = s.rcd := by
  unfold busNextEvent; dsimp only; split <;> rfl
@[simp] theorem busNextEvent_extcnt : ((busNextEvent s).2).extcnt = s.extcnt := by
  unfold busNextEvent; dsimp only; split <;> rfl
@[simp] theorem busNextEvent_lastIrq : ((busNextEvent s).2).lastIrq = s.lastIrq := by
  unfold busNextEvent; dsimp only; split <;> rfl
@[simp] theorem busNextEvent_cfg : ((busNextEvent s).2).cfg = s.cfg := by
  unfold busNextEvent; dsimp only; split <;> rfl
@[simp] theorem busNextEvent_requests : ((busNextEvent s).2).requests = s.requests := by
  unfold busNextEvent; dsimp only; split <;> rfl
@[simp] theorem busNextEvent_reply : ((busNextEvent s).2).reply = s.reply := by
  unfold busNextEvent; dsimp only; split <;> rfl

@[simp] theorem tileRun_car (k : Nat) (e : Bool) : ((tileRun k e s).2).car = s.car := by
  unfold tileRun; dsimp only; split <;> rfl
@[simp] theorem tileRun_kar (k : Nat) (e : Bool) : ((tileRun k e s).2).kar = s.kar := by
  unfold tileRun; dsimp only; split <;> rfl
@[simp] theorem tileRun_pic (k : Nat) (e : Bool) : ((tileRun k e s).2).pic = s.pic := by
  unfold tileRun; dsimp only; split <;> rfl
@[simp] theorem tileRun_palette (k : Nat) (e : Bool) : ((tileRun k e s).2).palette = s.palette := by
  unfold tileRun; dsimp only; split <;> rfl
@[simp] theorem tileRun_timing (k : Nat) (e : Bool) : ((tileRun k e s).2).timing = s.timing := by
  unfold tileRun; dsimp only; split <;> rfl
@[simp] theorem tileRun_rc (k : Nat) (e : Bool) : ((tileRun k e s).2).rc = s.rc := by
  unfold tileRun; dsimp only; split <;> rfl
@[simp] theorem tileRun_scsi (k : Nat) (e : Bool) : ((tileRun k e s).2).scsi = s.scsi := by
  unfold tileRun; dsimp only; split <;> rfl
@[simp] theorem tileRun_dma (k : Nat) (e : Bool) : ((tileRun k e s).2).dma = s.dma := by
  unfold tileRun; dsimp only; split <;> rfl
@[simp] theorem tileRun_play (k : Nat) (e : Bool) : ((tileRun k e s).2).play = s.play := by
  unfold tileRun; dsimp only; split <;> rfl
@[simp] theorem tileRun_ovl (k : Nat) (e : Bool) : ((tileRun k e s).2).ovl = s.ovl := by
  unfold tileRun; dsimp only; split <;> rfl
@[simp] theorem tileRun_pend (k : Nat) (e : Bool) : ((tileRun k e s).2).pend = s.pend := by
  unfold tileRun; dsimp only; split <;> rfl
@[simp] theorem tileRun_mp (k : Nat) (e : Bool) : ((tileRun k e s).2).mp = s.mp := by
  unfold tileRun; dsimp only; split <;> rfl
@[simp] theorem tileRun_bg (k : Nat) (e : Bool) : ((tileRun k e s).2).bg = s.bg := by
  unfold tileRun; dsimp only; split <;> rfl
@[simp] theorem tileRun_kctl (k : Nat) (e : Bool) : ((tileRun k e s).2).kctl = s.kctl := by
  unfold tileRun; dsimp only; split <;> rfl
@[simp] theorem tileRun_kram (k : Nat) (e : Bool) : ((tileRun k e s).2).kram = s.kram := by
  unfold tileRun; dsimp only; split <;> rfl
@[simp] theorem tileRun_line (k : Nat) (e : Bool) : ((tileRun k e s).2).line = s.line := by
  unfold tileRun; dsimp only; split <;> rfl
@[simp] theorem tileRun_out (k : Nat) (e : Bool) : ((tileRun k e s).2).out = s.out := by
  unfold tileRun; dsimp only; split <;> rfl
@[simp] theorem tileRun_pcache (k : Nat) (e : Bool) : ((tileRun k e s).2).pcache = s.pcache := by
  unfold tileRun; dsimp only; split <;> rfl
@[simp] theorem tileRun_rcd (k : Nat) (e : Bool) : ((tileRun k e s).2).rcd = s.rcd := by
  unfold tileRun; dsimp only; split <;> rfl
@[simp] theorem tileRun_extcnt (k : Nat) (e : Bool) : ((tileRun k e s).2).extcnt = s.extcnt := by
  unfold tileRun; dsimp only; split <;> rfl
@[simp] theorem tileRun_lastIrq (k : Nat) (e : Bool) : ((tileRun k e s).2).lastIrq = s.lastIrq := by
  unfold tileRun; dsimp only; split <;> rfl
@[simp] theorem tileRun_cfg (k : Nat) (e : Bool) : ((tileRun k e s).2).cfg = s.cfg := by
  unfold tileRun; dsimp only; split <;> rfl
@[simp] theorem tileRun_requests (k : Nat) (e : Bool) : ((tileRun k e s).2).requests = s.requests := by
  unfold tileRun; dsimp only; split <;> rfl
@[simp] theorem tileRun_reply (k : Nat) (e : Bool) : ((tileRun k e s).2).reply = s.reply := by
  unfold tileRun; dsimp only; split <;> rfl

@[simp] theorem ovlDecodeBlock_car (b : Bool) (a : KAddr) : ((ovlDecodeBlock b a s).2).car = s.car := by
  unfold ovlDecodeBlock; dsimp only; split <;> rfl
@[simp] theorem ovlDecodeBlock_kar (b : Bool) (a : KAddr) : ((ovlDecodeBlock b a s).2).kar = s.kar := by
  unfold ovlDecodeBlock; dsimp only; split <;> rfl
@[simp] theorem ovlDecodeBlock_pic (b : Bool) (a : KAddr) : ((ovlDecodeBlock b a s).2).pic = s.pic := by
  unfold ovlDecodeBlock; dsimp only; split <;> rfl
@[simp] theorem ovlDecodeBlock_palette (b : Bool) (a : KAddr) : ((ovlDecodeBlock b a s).2).palette = s.palette := by
  unfold ovlDecodeBlock; dsimp only; split <;> rfl
@[simp] theorem ovlDecodeBlock_timing (b : Bool) (a : KAddr) : ((ovlDecodeBlock b a s).2).timing = s.timing := by
  unfold ovlDecodeBlock; dsimp only; split <;> rfl
@[simp] theorem ovlDecodeBlock_rc (b : Bool) (a : KAddr) : ((ovlDecodeBlock b a s).2).rc = s.rc := by
  unfold ovlDecodeBlock; dsimp only; split <;> rfl
@[simp] theorem ovlDecodeBlock_scsi (b : Bool) (a : KAddr) : ((ovlDecodeBlock b a s).2).scsi = s.scsi := by
  unfold ovlDecodeBlock; dsimp only; split <;> rfl
@[simp] theorem ovlDecodeBlock_dma (b : Bool) (a : KAddr) : ((ovlDecodeBlock b a s).2).dma = s.dma := by
  unfold ovlDecodeBlock; dsimp only; split <;> rfl
@[simp] theorem ovlDecodeBlock_play (b : Bool) (a : KAddr) : ((ovlDecodeBlock b a s).2).play = s.play := by
  unfold ovlDecodeBlock; dsimp only; split <;> rfl
@[simp] theorem ovlDecodeBlock_ovl (b : Bool) (a : KAddr) : ((ovlDecodeBlock b a s).2).ovl = s.ovl := by
  unfold ovlDecodeBlock; dsimp only; split <;> rfl
@[simp] theorem ovlDecodeBlock_pend (b : Bool) (a : KAddr) : ((ovlDecodeBlock b a s).2).pend = s.pend := by
  unfold ovlDecodeBlock; dsimp only; split <;> rfl
@[simp] theorem ovlDecodeBlock_mp (b : Bool) (a : KAddr) : ((ovlDecodeBlock b a s).2).mp = s.mp := by
  unfold ovlDecodeBlock; dsimp only; split <;> rfl
@[simp] theorem ovlDecodeBlock_bg (b : Bool) (a : KAddr) : ((ovlDecodeBlock b a s).2).bg = s.bg := by
  unfold ovlDecodeBlock; dsimp only; split <;> rfl
@[simp] theorem ovlDecodeBlock_kctl (b : Bool) (a : KAddr) : ((ovlDecodeBlock b a s).2).kctl = s.kctl := by
  unfold ovlDecodeBlock; dsimp only; split <;> rfl
@[simp] theorem ovlDecodeBlock_kram (b : Bool) (a : KAddr) : ((ovlDecodeBlock b a s).2).kram = s.kram := by
  unfold ovlDecodeBlock; dsimp only; split <;> rfl
@[simp] theorem ovlDecodeBlock_line (b : Bool) (a : KAddr) : ((ovlDecodeBlock b a s).2).line = s.line := by
  unfold ovlDecodeBlock; dsimp only; split <;> rfl
@[simp] theorem ovlDecodeBlock_out (b : Bool) (a : KAddr) : ((ovlDecodeBlock b a s).2).out = s.out := by
  unfold ovlDecodeBlock; dsimp only; split <;> rfl
@[simp] theorem ovlDecodeBlock_pcache (b : Bool) (a : KAddr) : ((ovlDecodeBlock b a s).2).pcache = s.pcache := by
  unfold ovlDecodeBlock; dsimp only; split <;> rfl
@[simp] theorem ovlDecodeBlock_rcd (b : Bool) (a : KAddr) : ((ovlDecodeBlock b a s).2).rcd = s.rcd := by
  unfold ovlDecodeBlock; dsimp only; split <;> rfl
@[simp] theorem ovlDecodeBlock_extcnt (b : Bool) (a : KAddr) : ((ovlDecodeBlock b a s).2).extcnt = s.extcnt := by
  unfold ovlDecodeBlock; dsimp only; split <;> rfl
@[simp] theorem ovlDecodeBlock_lastIrq (b : Bool) (a : KAddr) : ((ovlDecodeBlock b a s).2).lastIrq = s.lastIrq := by
  unfold ovlDecodeBlock; dsimp only; split <;> rfl
@[simp] theorem ovlDecodeBlock_cfg (b : Bool) (a : KAddr) : ((ovlDecodeBlock b a s).2).cfg = s.cfg := by
  unfold ovlDecodeBlock; dsimp only; split <;> rfl
@[simp] theorem ovlDecodeBlock_requests (b : Bool) (a : KAddr) : ((ovlDecodeBlock b a s).2).requests = s.requests := by
  unfold ovlDecodeBlock; dsimp only; split <;> rfl
@[simp] theorem ovlDecodeBlock_reply (b : Bool) (a : KAddr) : ((ovlDecodeBlock b a s).2).reply = s.reply := by
  unfold ovlDecodeBlock; dsimp only; split <;> rfl

@[simp] theorem ovlFetchRaster_car (l : BitVec 9) (b : BitVec 10) : ((ovlFetchRaster l b s).2).car = s.car := by
  unfold ovlFetchRaster; dsimp only; split <;> rfl
@[simp] theorem ovlFetchRaster_kar (l : BitVec 9) (b : BitVec 10) : ((ovlFetchRaster l b s).2).kar = s.kar := by
  unfold ovlFetchRaster; dsimp only; split <;> rfl
@[simp] theorem ovlFetchRaster_pic (l : BitVec 9) (b : BitVec 10) : ((ovlFetchRaster l b s).2).pic = s.pic := by
  unfold ovlFetchRaster; dsimp only; split <;> rfl
@[simp] theorem ovlFetchRaster_palette (l : BitVec 9) (b : BitVec 10) : ((ovlFetchRaster l b s).2).palette = s.palette := by
  unfold ovlFetchRaster; dsimp only; split <;> rfl
@[simp] theorem ovlFetchRaster_timing (l : BitVec 9) (b : BitVec 10) : ((ovlFetchRaster l b s).2).timing = s.timing := by
  unfold ovlFetchRaster; dsimp only; split <;> rfl
@[simp] theorem ovlFetchRaster_rc (l : BitVec 9) (b : BitVec 10) : ((ovlFetchRaster l b s).2).rc = s.rc := by
  unfold ovlFetchRaster; dsimp only; split <;> rfl
@[simp] theorem ovlFetchRaster_scsi (l : BitVec 9) (b : BitVec 10) : ((ovlFetchRaster l b s).2).scsi = s.scsi := by
  unfold ovlFetchRaster; dsimp only; split <;> rfl
@[simp] theorem ovlFetchRaster_dma (l : BitVec 9) (b : BitVec 10) : ((ovlFetchRaster l b s).2).dma = s.dma := by
  unfold ovlFetchRaster; dsimp only; split <;> rfl
@[simp] theorem ovlFetchRaster_play (l : BitVec 9) (b : BitVec 10) : ((ovlFetchRaster l b s).2).play = s.play := by
  unfold ovlFetchRaster; dsimp only; split <;> rfl
@[simp] theorem ovlFetchRaster_ovl (l : BitVec 9) (b : BitVec 10) : ((ovlFetchRaster l b s).2).ovl = s.ovl := by
  unfold ovlFetchRaster; dsimp only; split <;> rfl
@[simp] theorem ovlFetchRaster_pend (l : BitVec 9) (b : BitVec 10) : ((ovlFetchRaster l b s).2).pend = s.pend := by
  unfold ovlFetchRaster; dsimp only; split <;> rfl
@[simp] theorem ovlFetchRaster_mp (l : BitVec 9) (b : BitVec 10) : ((ovlFetchRaster l b s).2).mp = s.mp := by
  unfold ovlFetchRaster; dsimp only; split <;> rfl
@[simp] theorem ovlFetchRaster_bg (l : BitVec 9) (b : BitVec 10) : ((ovlFetchRaster l b s).2).bg = s.bg := by
  unfold ovlFetchRaster; dsimp only; split <;> rfl
@[simp] theorem ovlFetchRaster_kctl (l : BitVec 9) (b : BitVec 10) : ((ovlFetchRaster l b s).2).kctl = s.kctl := by
  unfold ovlFetchRaster; dsimp only; split <;> rfl
@[simp] theorem ovlFetchRaster_kram (l : BitVec 9) (b : BitVec 10) : ((ovlFetchRaster l b s).2).kram = s.kram := by
  unfold ovlFetchRaster; dsimp only; split <;> rfl
@[simp] theorem ovlFetchRaster_line (l : BitVec 9) (b : BitVec 10) : ((ovlFetchRaster l b s).2).line = s.line := by
  unfold ovlFetchRaster; dsimp only; split <;> rfl
@[simp] theorem ovlFetchRaster_out (l : BitVec 9) (b : BitVec 10) : ((ovlFetchRaster l b s).2).out = s.out := by
  unfold ovlFetchRaster; dsimp only; split <;> rfl
@[simp] theorem ovlFetchRaster_pcache (l : BitVec 9) (b : BitVec 10) : ((ovlFetchRaster l b s).2).pcache = s.pcache := by
  unfold ovlFetchRaster; dsimp only; split <;> rfl
@[simp] theorem ovlFetchRaster_rcd (l : BitVec 9) (b : BitVec 10) : ((ovlFetchRaster l b s).2).rcd = s.rcd := by
  unfold ovlFetchRaster; dsimp only; split <;> rfl
@[simp] theorem ovlFetchRaster_extcnt (l : BitVec 9) (b : BitVec 10) : ((ovlFetchRaster l b s).2).extcnt = s.extcnt := by
  unfold ovlFetchRaster; dsimp only; split <;> rfl
@[simp] theorem ovlFetchRaster_lastIrq (l : BitVec 9) (b : BitVec 10) : ((ovlFetchRaster l b s).2).lastIrq = s.lastIrq := by
  unfold ovlFetchRaster; dsimp only; split <;> rfl
@[simp] theorem ovlFetchRaster_cfg (l : BitVec 9) (b : BitVec 10) : ((ovlFetchRaster l b s).2).cfg = s.cfg := by
  unfold ovlFetchRaster; dsimp only; split <;> rfl
@[simp] theorem ovlFetchRaster_requests (l : BitVec 9) (b : BitVec 10) : ((ovlFetchRaster l b s).2).requests = s.requests := by
  unfold ovlFetchRaster; dsimp only; split <;> rfl
@[simp] theorem ovlFetchRaster_reply (l : BitVec 9) (b : BitVec 10) : ((ovlFetchRaster l b s).2).reply = s.reply := by
  unfold ovlFetchRaster; dsimp only; split <;> rfl

@[simp] theorem bgRender_car (l : BitVec 9) : ((bgRender l s).2).car = s.car := by
  unfold bgRender; dsimp only; split <;> rfl
@[simp] theorem bgRender_kar (l : BitVec 9) : ((bgRender l s).2).kar = s.kar := by
  unfold bgRender; dsimp only; split <;> rfl
@[simp] theorem bgRender_pic (l : BitVec 9) : ((bgRender l s).2).pic = s.pic := by
  unfold bgRender; dsimp only; split <;> rfl
@[simp] theorem bgRender_palette (l : BitVec 9) : ((bgRender l s).2).palette = s.palette := by
  unfold bgRender; dsimp only; split <;> rfl
@[simp] theorem bgRender_timing (l : BitVec 9) : ((bgRender l s).2).timing = s.timing := by
  unfold bgRender; dsimp only; split <;> rfl
@[simp] theorem bgRender_rc (l : BitVec 9) : ((bgRender l s).2).rc = s.rc := by
  unfold bgRender; dsimp only; split <;> rfl
@[simp] theorem bgRender_scsi (l : BitVec 9) : ((bgRender l s).2).scsi = s.scsi := by
  unfold bgRender; dsimp only; split <;> rfl
@[simp] theorem bgRender_dma (l : BitVec 9) : ((bgRender l s).2).dma = s.dma := by
  unfold bgRender; dsimp only; split <;> rfl
@[simp] theorem bgRender_play (l : BitVec 9) : ((bgRender l s).2).play = s.play := by
  unfold bgRender; dsimp only; split <;> rfl
@[simp] theorem bgRender_ovl (l : BitVec 9) : ((bgRender l s).2).ovl = s.ovl := by
  unfold bgRender; dsimp only; split <;> rfl
@[simp] theorem bgRender_pend (l : BitVec 9) : ((bgRender l s).2).pend = s.pend := by
  unfold bgRender; dsimp only; split <;> rfl
@[simp] theorem bgRender_mp (l : BitVec 9) : ((bgRender l s).2).mp = s.mp := by
  unfold bgRender; dsimp only; split <;> rfl
@[simp] theorem bgRender_bg (l : BitVec 9) : ((bgRender l s).2).bg = s.bg := by
  unfold bgRender; dsimp only; split <;> rfl
@[simp] theorem bgRender_kctl (l : BitVec 9) : ((bgRender l s).2).kctl = s.kctl := by
  unfold bgRender; dsimp only; split <;> rfl
@[simp] theorem bgRender_kram (l : BitVec 9) : ((bgRender l s).2).kram = s.kram := by
  unfold bgRender; dsimp only; split <;> rfl
@[simp] theorem bgRender_line (l : BitVec 9) : ((bgRender l s).2).line = s.line := by
  unfold bgRender; dsimp only; split <;> rfl
@[simp] theorem bgRender_out (l : BitVec 9) : ((bgRender l s).2).out = s.out := by
  unfold bgRender; dsimp only; split <;> rfl
@[simp] theorem bgRender_pcache (l : BitVec 9) : ((bgRender l s).2).pcache = s.pcache := by
  unfold bgRender; dsimp only; split <;> rfl
@[simp] theorem bgRender_rcd (l : BitVec 9) : ((bgRender l s).2).rcd = s.rcd := by
  unfold bgRender; dsimp only; split <;> rfl
@[simp] theorem bgRender_extcnt (l : BitVec 9) : ((bgRender l s).2).extcnt = s.extcnt := by
  unfold bgRender; dsimp only; split <;> rfl
@[simp] theorem bgRender_lastIrq (l : BitVec 9) : ((bgRender l s).2).lastIrq = s.lastIrq := by
  unfold bgRender; dsimp only; split <;> rfl
@[simp] theorem bgRender_cfg (l : BitVec 9) : ((bgRender l s).2).cfg = s.cfg := by
  unfold bgRender; dsimp only; split <;> rfl
@[simp] theorem bgRender_requests (l : BitVec 9) : ((bgRender l s).2).requests = s.requests := by
  unfold bgRender; dsimp only; split <;> rfl
@[simp] theorem bgRender_reply (l : BitVec 9) : ((bgRender l s).2).reply = s.reply := by
  unfold bgRender; dsimp only; split <;> rfl

/-! Bus outputs. -/

@[simp] theorem forwardLine_car (l : Line) (b a : Bool) : (forwardLine l b a s).car = s.car := by
  unfold forwardLine; split <;> rfl
@[simp] theorem forwardLine_kar (l : Line) (b a : Bool) : (forwardLine l b a s).kar = s.kar := by
  unfold forwardLine; split <;> rfl
@[simp] theorem forwardLine_pic (l : Line) (b a : Bool) : (forwardLine l b a s).pic = s.pic := by
  unfold forwardLine; split <;> rfl
@[simp] theorem forwardLine_palette (l : Line) (b a : Bool) : (forwardLine l b a s).palette = s.palette := by
  unfold forwardLine; split <;> rfl
@[simp] theorem forwardLine_timing (l : Line) (b a : Bool) : (forwardLine l b a s).timing = s.timing := by
  unfold forwardLine; split <;> rfl
@[simp] theorem forwardLine_rc (l : Line) (b a : Bool) : (forwardLine l b a s).rc = s.rc := by
  unfold forwardLine; split <;> rfl
@[simp] theorem forwardLine_scsi (l : Line) (b a : Bool) : (forwardLine l b a s).scsi = s.scsi := by
  unfold forwardLine; split <;> rfl
@[simp] theorem forwardLine_dma (l : Line) (b a : Bool) : (forwardLine l b a s).dma = s.dma := by
  unfold forwardLine; split <;> rfl
@[simp] theorem forwardLine_play (l : Line) (b a : Bool) : (forwardLine l b a s).play = s.play := by
  unfold forwardLine; split <;> rfl
@[simp] theorem forwardLine_ovl (l : Line) (b a : Bool) : (forwardLine l b a s).ovl = s.ovl := by
  unfold forwardLine; split <;> rfl
@[simp] theorem forwardLine_pend (l : Line) (b a : Bool) : (forwardLine l b a s).pend = s.pend := by
  unfold forwardLine; split <;> rfl
@[simp] theorem forwardLine_mp (l : Line) (b a : Bool) : (forwardLine l b a s).mp = s.mp := by
  unfold forwardLine; split <;> rfl
@[simp] theorem forwardLine_bg (l : Line) (b a : Bool) : (forwardLine l b a s).bg = s.bg := by
  unfold forwardLine; split <;> rfl
@[simp] theorem forwardLine_kctl (l : Line) (b a : Bool) : (forwardLine l b a s).kctl = s.kctl := by
  unfold forwardLine; split <;> rfl
@[simp] theorem forwardLine_kram (l : Line) (b a : Bool) : (forwardLine l b a s).kram = s.kram := by
  unfold forwardLine; split <;> rfl
@[simp] theorem forwardLine_line (l : Line) (b a : Bool) : (forwardLine l b a s).line = s.line := by
  unfold forwardLine; split <;> rfl
@[simp] theorem forwardLine_out (l : Line) (b a : Bool) : (forwardLine l b a s).out = s.out := by
  unfold forwardLine; split <;> rfl
@[simp] theorem forwardLine_pcache (l : Line) (b a : Bool) : (forwardLine l b a s).pcache = s.pcache := by
  unfold forwardLine; split <;> rfl
@[simp] theorem forwardLine_rcd (l : Line) (b a : Bool) : (forwardLine l b a s).rcd = s.rcd := by
  unfold forwardLine; split <;> rfl
@[simp] theorem forwardLine_extcnt (l : Line) (b a : Bool) : (forwardLine l b a s).extcnt = s.extcnt := by
  unfold forwardLine; split <;> rfl
@[simp] theorem forwardLine_lastIrq (l : Line) (b a : Bool) : (forwardLine l b a s).lastIrq = s.lastIrq := by
  unfold forwardLine; split <;> rfl
@[simp] theorem forwardLine_cfg (l : Line) (b a : Bool) : (forwardLine l b a s).cfg = s.cfg := by
  unfold forwardLine; split <;> rfl
@[simp] theorem forwardLine_script (l : Line) (b a : Bool) : (forwardLine l b a s).script = s.script := by
  unfold forwardLine; split <;> rfl
@[simp] theorem forwardLine_requests (l : Line) (b a : Bool) : (forwardLine l b a s).requests = s.requests := by
  unfold forwardLine; split <;> rfl
@[simp] theorem forwardLine_reply (l : Line) (b a : Bool) : (forwardLine l b a s).reply = s.reply := by
  unfold forwardLine; split <;> rfl

@[simp] theorem forwardData_car (b a : Scsi) : (forwardData b a s).car = s.car := by
  unfold forwardData; dsimp only; split <;> simp
@[simp] theorem forwardData_kar (b a : Scsi) : (forwardData b a s).kar = s.kar := by
  unfold forwardData; dsimp only; split <;> simp
@[simp] theorem forwardData_pic (b a : Scsi) : (forwardData b a s).pic = s.pic := by
  unfold forwardData; dsimp only; split <;> simp
@[simp] theorem forwardData_palette (b a : Scsi) : (forwardData b a s).palette = s.palette := by
  unfold forwardData; dsimp only; split <;> simp
@[simp] theorem forwardData_timing (b a : Scsi) : (forwardData b a s).timing = s.timing := by
  unfold forwardData; dsimp only; split <;> simp
@[simp] theorem forwardData_rc (b a : Scsi) : (forwardData b a s).rc = s.rc := by
  unfold forwardData; dsimp only; split <;> simp
@[simp] theorem forwardData_scsi (b a : Scsi) : (forwardData b a s).scsi = s.scsi := by
  unfold forwardData; dsimp only; split <;> simp
@[simp] theorem forwardData_dma (b a : Scsi) : (forwardData b a s).dma = s.dma := by
  unfold forwardData; dsimp only; split <;> simp
@[simp] theorem forwardData_play (b a : Scsi) : (forwardData b a s).play = s.play := by
  unfold forwardData; dsimp only; split <;> simp
@[simp] theorem forwardData_ovl (b a : Scsi) : (forwardData b a s).ovl = s.ovl := by
  unfold forwardData; dsimp only; split <;> simp
@[simp] theorem forwardData_pend (b a : Scsi) : (forwardData b a s).pend = s.pend := by
  unfold forwardData; dsimp only; split <;> simp
@[simp] theorem forwardData_mp (b a : Scsi) : (forwardData b a s).mp = s.mp := by
  unfold forwardData; dsimp only; split <;> simp
@[simp] theorem forwardData_bg (b a : Scsi) : (forwardData b a s).bg = s.bg := by
  unfold forwardData; dsimp only; split <;> simp
@[simp] theorem forwardData_kctl (b a : Scsi) : (forwardData b a s).kctl = s.kctl := by
  unfold forwardData; dsimp only; split <;> simp
@[simp] theorem forwardData_kram (b a : Scsi) : (forwardData b a s).kram = s.kram := by
  unfold forwardData; dsimp only; split <;> simp
@[simp] theorem forwardData_line (b a : Scsi) : (forwardData b a s).line = s.line := by
  unfold forwardData; dsimp only; split <;> simp
@[simp] theorem forwardData_out (b a : Scsi) : (forwardData b a s).out = s.out := by
  unfold forwardData; dsimp only; split <;> simp
@[simp] theorem forwardData_pcache (b a : Scsi) : (forwardData b a s).pcache = s.pcache := by
  unfold forwardData; dsimp only; split <;> simp
@[simp] theorem forwardData_rcd (b a : Scsi) : (forwardData b a s).rcd = s.rcd := by
  unfold forwardData; dsimp only; split <;> simp
@[simp] theorem forwardData_extcnt (b a : Scsi) : (forwardData b a s).extcnt = s.extcnt := by
  unfold forwardData; dsimp only; split <;> simp
@[simp] theorem forwardData_lastIrq (b a : Scsi) : (forwardData b a s).lastIrq = s.lastIrq := by
  unfold forwardData; dsimp only; split <;> simp
@[simp] theorem forwardData_cfg (b a : Scsi) : (forwardData b a s).cfg = s.cfg := by
  unfold forwardData; dsimp only; split <;> simp
@[simp] theorem forwardData_script (b a : Scsi) : (forwardData b a s).script = s.script := by
  unfold forwardData; dsimp only; split <;> simp
@[simp] theorem forwardData_requests (b a : Scsi) : (forwardData b a s).requests = s.requests := by
  unfold forwardData; dsimp only; split <;> simp
@[simp] theorem forwardData_reply (b a : Scsi) : (forwardData b a s).reply = s.reply := by
  unfold forwardData; dsimp only; split <;> simp

@[simp] theorem forwardOutputs_car (b a : Scsi) : (forwardOutputs b a s).car = s.car := by
  simp [forwardOutputs]
@[simp] theorem forwardOutputs_kar (b a : Scsi) : (forwardOutputs b a s).kar = s.kar := by
  simp [forwardOutputs]
@[simp] theorem forwardOutputs_pic (b a : Scsi) : (forwardOutputs b a s).pic = s.pic := by
  simp [forwardOutputs]
@[simp] theorem forwardOutputs_palette (b a : Scsi) : (forwardOutputs b a s).palette = s.palette := by
  simp [forwardOutputs]
@[simp] theorem forwardOutputs_timing (b a : Scsi) : (forwardOutputs b a s).timing = s.timing := by
  simp [forwardOutputs]
@[simp] theorem forwardOutputs_rc (b a : Scsi) : (forwardOutputs b a s).rc = s.rc := by
  simp [forwardOutputs]
@[simp] theorem forwardOutputs_scsi (b a : Scsi) : (forwardOutputs b a s).scsi = s.scsi := by
  simp [forwardOutputs]
@[simp] theorem forwardOutputs_dma (b a : Scsi) : (forwardOutputs b a s).dma = s.dma := by
  simp [forwardOutputs]
@[simp] theorem forwardOutputs_play (b a : Scsi) : (forwardOutputs b a s).play = s.play := by
  simp [forwardOutputs]
@[simp] theorem forwardOutputs_ovl (b a : Scsi) : (forwardOutputs b a s).ovl = s.ovl := by
  simp [forwardOutputs]
@[simp] theorem forwardOutputs_pend (b a : Scsi) : (forwardOutputs b a s).pend = s.pend := by
  simp [forwardOutputs]
@[simp] theorem forwardOutputs_mp (b a : Scsi) : (forwardOutputs b a s).mp = s.mp := by
  simp [forwardOutputs]
@[simp] theorem forwardOutputs_bg (b a : Scsi) : (forwardOutputs b a s).bg = s.bg := by
  simp [forwardOutputs]
@[simp] theorem forwardOutputs_kctl (b a : Scsi) : (forwardOutputs b a s).kctl = s.kctl := by
  simp [forwardOutputs]
@[simp] theorem forwardOutputs_kram (b a : Scsi) : (forwardOutputs b a s).kram = s.kram := by
  simp [forwardOutputs]
@[simp] theorem forwardOutputs_line (b a : Scsi) : (forwardOutputs b a s).line = s.line := by
  simp [forwardOutputs]
@[simp] theorem forwardOutputs_out (b a : Scsi) : (forwardOutputs b a s).out = s.out := by
  simp [forwardOutputs]
@[simp] theorem forwardOutputs_pcache (b a : Scsi) : (forwardOutputs b a s).pcache = s.pcache := by
  simp [forwardOutputs]
@[simp] theorem forwardOutputs_rcd (b a : Scsi) : (forwardOutputs b a s).rcd = s.rcd := by
  simp [forwardOutputs]
@[simp] theorem forwardOutputs_extcnt (b a : Scsi) : (forwardOutputs b a s).extcnt = s.extcnt := by
  simp [forwardOutputs]
@[simp] theorem forwardOutputs_lastIrq (b a : Scsi) : (forwardOutputs b a s).lastIrq = s.lastIrq := by
  simp [forwardOutputs]
@[simp] theorem forwardOutputs_cfg (b a : Scsi) : (forwardOutputs b a s).cfg = s.cfg := by
  simp [forwardOutputs]
@[simp] theorem forwardOutputs_script (b a : Scsi) : (forwardOutputs b a s).script = s.script := by
  simp [forwardOutputs]
@[simp] theorem forwardOutputs_requests (b a : Scsi) : (forwardOutputs b a s).requests = s.requests := by
  simp [forwardOutputs]
@[simp] theorem forwardOutputs_reply (b a : Scsi) : (forwardOutputs b a s).reply = s.reply := by
  simp [forwardOutputs]

@[simp] theorem setHsAck_car (l : Bool) : (setHsAck l s).car = s.car := by
  simp [setHsAck]
@[simp] theorem setHsAck_kar (l : Bool) : (setHsAck l s).kar = s.kar := by
  simp [setHsAck]
@[simp] theorem setHsAck_pic (l : Bool) : (setHsAck l s).pic = s.pic := by
  simp [setHsAck]
@[simp] theorem setHsAck_palette (l : Bool) : (setHsAck l s).palette = s.palette := by
  simp [setHsAck]
@[simp] theorem setHsAck_timing (l : Bool) : (setHsAck l s).timing = s.timing := by
  simp [setHsAck]
@[simp] theorem setHsAck_rc (l : Bool) : (setHsAck l s).rc = s.rc := by
  simp [setHsAck]
@[simp] theorem setHsAck_dma (l : Bool) : (setHsAck l s).dma = s.dma := by
  simp [setHsAck]
@[simp] theorem setHsAck_play (l : Bool) : (setHsAck l s).play = s.play := by
  simp [setHsAck]
@[simp] theorem setHsAck_ovl (l : Bool) : (setHsAck l s).ovl = s.ovl := by
  simp [setHsAck]
@[simp] theorem setHsAck_pend (l : Bool) : (setHsAck l s).pend = s.pend := by
  simp [setHsAck]
@[simp] theorem setHsAck_mp (l : Bool) : (setHsAck l s).mp = s.mp := by
  simp [setHsAck]
@[simp] theorem setHsAck_bg (l : Bool) : (setHsAck l s).bg = s.bg := by
  simp [setHsAck]
@[simp] theorem setHsAck_kctl (l : Bool) : (setHsAck l s).kctl = s.kctl := by
  simp [setHsAck]
@[simp] theorem setHsAck_kram (l : Bool) : (setHsAck l s).kram = s.kram := by
  simp [setHsAck]
@[simp] theorem setHsAck_line (l : Bool) : (setHsAck l s).line = s.line := by
  simp [setHsAck]
@[simp] theorem setHsAck_out (l : Bool) : (setHsAck l s).out = s.out := by
  simp [setHsAck]
@[simp] theorem setHsAck_pcache (l : Bool) : (setHsAck l s).pcache = s.pcache := by
  simp [setHsAck]
@[simp] theorem setHsAck_rcd (l : Bool) : (setHsAck l s).rcd = s.rcd := by
  simp [setHsAck]
@[simp] theorem setHsAck_extcnt (l : Bool) : (setHsAck l s).extcnt = s.extcnt := by
  simp [setHsAck]
@[simp] theorem setHsAck_lastIrq (l : Bool) : (setHsAck l s).lastIrq = s.lastIrq := by
  simp [setHsAck]
@[simp] theorem setHsAck_cfg (l : Bool) : (setHsAck l s).cfg = s.cfg := by
  simp [setHsAck]
@[simp] theorem setHsAck_script (l : Bool) : (setHsAck l s).script = s.script := by
  simp [setHsAck]
@[simp] theorem setHsAck_requests (l : Bool) : (setHsAck l s).requests = s.requests := by
  simp [setHsAck]
@[simp] theorem setHsAck_reply (l : Bool) : (setHsAck l s).reply = s.reply := by
  simp [setHsAck]

@[simp] theorem setHsAck_scsi (l : Bool) : (setHsAck l s).scsi = { s.scsi with hsAck := l } := by
  simp [setHsAck]

/-! The interrupt output. -/

@[simp] theorem reevalIrq_car : (reevalIrq s).car = s.car := by
  unfold reevalIrq; split <;> rfl
@[simp] theorem reevalIrq_kar : (reevalIrq s).kar = s.kar := by
  unfold reevalIrq; split <;> rfl
@[simp] theorem reevalIrq_pic : (reevalIrq s).pic = s.pic := by
  unfold reevalIrq; split <;> rfl
@[simp] theorem reevalIrq_palette : (reevalIrq s).palette = s.palette := by
  unfold reevalIrq; split <;> rfl
@[simp] theorem reevalIrq_timing : (reevalIrq s).timing = s.timing := by
  unfold reevalIrq; split <;> rfl
@[simp] theorem reevalIrq_rc : (reevalIrq s).rc = s.rc := by
  unfold reevalIrq; split <;> rfl
@[simp] theorem reevalIrq_scsi : (reevalIrq s).scsi = s.scsi := by
  unfold reevalIrq; split <;> rfl
@[simp] theorem reevalIrq_dma : (reevalIrq s).dma = s.dma := by
  unfold reevalIrq; split <;> rfl
@[simp] theorem reevalIrq_play : (reevalIrq s).play = s.play := by
  unfold reevalIrq; split <;> rfl
@[simp] theorem reevalIrq_ovl : (reevalIrq s).ovl = s.ovl := by
  unfold reevalIrq; split <;> rfl
@[simp] theorem reevalIrq_pend : (reevalIrq s).pend = s.pend := by
  unfold reevalIrq; split <;> rfl
@[simp] theorem reevalIrq_mp : (reevalIrq s).mp = s.mp := by
  unfold reevalIrq; split <;> rfl
@[simp] theorem reevalIrq_bg : (reevalIrq s).bg = s.bg := by
  unfold reevalIrq; split <;> rfl
@[simp] theorem reevalIrq_kctl : (reevalIrq s).kctl = s.kctl := by
  unfold reevalIrq; split <;> rfl
@[simp] theorem reevalIrq_kram : (reevalIrq s).kram = s.kram := by
  unfold reevalIrq; split <;> rfl
@[simp] theorem reevalIrq_line : (reevalIrq s).line = s.line := by
  unfold reevalIrq; split <;> rfl
@[simp] theorem reevalIrq_out : (reevalIrq s).out = s.out := by
  unfold reevalIrq; split <;> rfl
@[simp] theorem reevalIrq_pcache : (reevalIrq s).pcache = s.pcache := by
  unfold reevalIrq; split <;> rfl
@[simp] theorem reevalIrq_rcd : (reevalIrq s).rcd = s.rcd := by
  unfold reevalIrq; split <;> rfl
@[simp] theorem reevalIrq_extcnt : (reevalIrq s).extcnt = s.extcnt := by
  unfold reevalIrq; split <;> rfl
@[simp] theorem reevalIrq_cfg : (reevalIrq s).cfg = s.cfg := by
  unfold reevalIrq; split <;> rfl
@[simp] theorem reevalIrq_script : (reevalIrq s).script = s.script := by
  unfold reevalIrq; split <;> rfl
@[simp] theorem reevalIrq_requests : (reevalIrq s).requests = s.requests := by
  unfold reevalIrq; split <;> rfl
@[simp] theorem reevalIrq_reply : (reevalIrq s).reply = s.reply := by
  unfold reevalIrq; split <;> rfl

@[simp] theorem reevalIrq_lastIrq : (reevalIrq s).lastIrq = irqLevel s := by
  unfold reevalIrq; split
  · exact Eq.symm ‹_›
  · rfl

theorem reevalIrq_calls : (reevalIrq s).calls =
    if s.lastIrq = irqLevel s then s.calls else .setIrq (irqLevel s) :: s.calls := by
  unfold reevalIrq
  by_cases h : irqLevel s = s.lastIrq
  · rw [if_pos h, if_pos h.symm]
  · rw [if_neg h, if_neg (Ne.symm h)]; rfl

@[simp] theorem irqLevel_setReply (r : Reply) : irqLevel (s.setReply r) = irqLevel s := rfl
@[simp] theorem irqLevel_reevalIrq : irqLevel (reevalIrq s) = irqLevel s := by
  simp [irqLevel]

/-- Re-evaluating twice tells nothing twice. -/
theorem reevalIrq_idem : reevalIrq (reevalIrq s) = reevalIrq s := by
  have h : irqLevel (reevalIrq s) = (reevalIrq s).lastIrq := by simp
  generalize reevalIrq s = t at h
  unfold reevalIrq
  rw [if_pos h]

/-! Cursors and notifications. -/

@[simp] theorem cursorWrite_car (v : Word) : (cursorWrite v s).car = s.car := rfl
@[simp] theorem cursorWrite_kar (v : Word) : (cursorWrite v s).kar = s.kar := rfl
@[simp] theorem cursorWrite_pic (v : Word) : (cursorWrite v s).pic = s.pic := rfl
@[simp] theorem cursorWrite_palette (v : Word) : (cursorWrite v s).palette = s.palette := rfl
@[simp] theorem cursorWrite_timing (v : Word) : (cursorWrite v s).timing = s.timing := rfl
@[simp] theorem cursorWrite_rc (v : Word) : (cursorWrite v s).rc = s.rc := rfl
@[simp] theorem cursorWrite_scsi (v : Word) : (cursorWrite v s).scsi = s.scsi := rfl
@[simp] theorem cursorWrite_dma (v : Word) : (cursorWrite v s).dma = s.dma := rfl
@[simp] theorem cursorWrite_play (v : Word) : (cursorWrite v s).play = s.play := rfl
@[simp] theorem cursorWrite_ovl (v : Word) : (cursorWrite v s).ovl = s.ovl := rfl
@[simp] theorem cursorWrite_pend (v : Word) : (cursorWrite v s).pend = s.pend := rfl
@[simp] theorem cursorWrite_mp (v : Word) : (cursorWrite v s).mp = s.mp := rfl
@[simp] theorem cursorWrite_bg (v : Word) : (cursorWrite v s).bg = s.bg := rfl
@[simp] theorem cursorWrite_line (v : Word) : (cursorWrite v s).line = s.line := rfl
@[simp] theorem cursorWrite_out (v : Word) : (cursorWrite v s).out = s.out := rfl
@[simp] theorem cursorWrite_pcache (v : Word) : (cursorWrite v s).pcache = s.pcache := rfl
@[simp] theorem cursorWrite_rcd (v : Word) : (cursorWrite v s).rcd = s.rcd := rfl
@[simp] theorem cursorWrite_extcnt (v : Word) : (cursorWrite v s).extcnt = s.extcnt := rfl
@[simp] theorem cursorWrite_lastIrq (v : Word) : (cursorWrite v s).lastIrq = s.lastIrq := rfl
@[simp] theorem cursorWrite_cfg (v : Word) : (cursorWrite v s).cfg = s.cfg := rfl
@[simp] theorem cursorWrite_script (v : Word) : (cursorWrite v s).script = s.script := rfl
@[simp] theorem cursorWrite_requests (v : Word) : (cursorWrite v s).requests = s.requests := rfl
@[simp] theorem cursorWrite_calls (v : Word) : (cursorWrite v s).calls = s.calls := rfl
@[simp] theorem cursorWrite_reply (v : Word) : (cursorWrite v s).reply = s.reply := rfl

@[simp] theorem cursorWrite_kram (v : Word) : (cursorWrite v s).kram = memWrite s.kram (bankCpu s.kctl) (cursorAddr s.kctl.wa) v := rfl
@[simp] theorem cursorWrite_kctl (v : Word) : (cursorWrite v s).kctl = { s.kctl with wa := cursorNext s.kctl.wa } := rfl

@[simp] theorem cursorAdvance_car : (cursorAdvance s).car = s.car := rfl
@[simp] theorem cursorAdvance_kar : (cursorAdvance s).kar = s.kar := rfl
@[simp] theorem cursorAdvance_pic : (cursorAdvance s).pic = s.pic := rfl
@[simp] theorem cursorAdvance_palette : (cursorAdvance s).palette = s.palette := rfl
@[simp] theorem cursorAdvance_timing : (cursorAdvance s).timing = s.timing := rfl
@[simp] theorem cursorAdvance_rc : (cursorAdvance s).rc = s.rc := rfl
@[simp] theorem cursorAdvance_scsi : (cursorAdvance s).scsi = s.scsi := rfl
@[simp] theorem cursorAdvance_dma : (cursorAdvance s).dma = s.dma := rfl
@[simp] theorem cursorAdvance_play : (cursorAdvance s).play = s.play := rfl
@[simp] theorem cursorAdvance_ovl : (cursorAdvance s).ovl = s.ovl := rfl
@[simp] theorem cursorAdvance_pend : (cursorAdvance s).pend = s.pend := rfl
@[simp] theorem cursorAdvance_mp : (cursorAdvance s).mp = s.mp := rfl
@[simp] theorem cursorAdvance_bg : (cursorAdvance s).bg = s.bg := rfl
@[simp] theorem cursorAdvance_kram : (cursorAdvance s).kram = s.kram := rfl
@[simp] theorem cursorAdvance_line : (cursorAdvance s).line = s.line := rfl
@[simp] theorem cursorAdvance_out : (cursorAdvance s).out = s.out := rfl
@[simp] theorem cursorAdvance_pcache : (cursorAdvance s).pcache = s.pcache := rfl
@[simp] theorem cursorAdvance_rcd : (cursorAdvance s).rcd = s.rcd := rfl
@[simp] theorem cursorAdvance_extcnt : (cursorAdvance s).extcnt = s.extcnt := rfl
@[simp] theorem cursorAdvance_lastIrq : (cursorAdvance s).lastIrq = s.lastIrq := rfl
@[simp] theorem cursorAdvance_cfg : (cursorAdvance s).cfg = s.cfg := rfl
@[simp] theorem cursorAdvance_script : (cursorAdvance s).script = s.script := rfl
@[simp] theorem cursorAdvance_requests : (cursorAdvance s).requests = s.requests := rfl
@[simp] theorem cursorAdvance_calls : (cursorAdvance s).calls = s.calls := rfl
@[simp] theorem cursorAdvance_reply : (cursorAdvance s).reply = s.reply := rfl

@[simp] theorem cursorAdvance_kctl : (cursorAdvance s).kctl = { s.kctl with ra := cursorNext s.kctl.ra } := rfl

@[simp] theorem notifyPlay_car (r : KReg) : (notifyPlay r s).car = s.car := by
  unfold notifyPlay; split <;> rfl
@[simp] theorem notifyPlay_kar (r : KReg) : (notifyPlay r s).kar = s.kar := by
  unfold notifyPlay; split <;> rfl
@[simp] theorem notifyPlay_pic (r : KReg) : (notifyPlay r s).pic = s.pic := by
  unfold notifyPlay; split <;> rfl
@[simp] theorem notifyPlay_palette (r : KReg) : (notifyPlay r s).palette = s.palette := by
  unfold notifyPlay; split <;> rfl
@[simp] theorem notifyPlay_timing (r : KReg) : (notifyPlay r s).timing = s.timing := by
  unfold notifyPlay; split <;> rfl
@[simp] theorem notifyPlay_rc (r : KReg) : (notifyPlay r s).rc = s.rc := by
  unfold notifyPlay; split <;> rfl
@[simp] theorem notifyPlay_scsi (r : KReg) : (notifyPlay r s).scsi = s.scsi := by
  unfold notifyPlay; split <;> rfl
@[simp] theorem notifyPlay_dma (r : KReg) : (notifyPlay r s).dma = s.dma := by
  unfold notifyPlay; split <;> rfl
@[simp] theorem notifyPlay_play (r : KReg) : (notifyPlay r s).play = s.play := by
  unfold notifyPlay; split <;> rfl
@[simp] theorem notifyPlay_ovl (r : KReg) : (notifyPlay r s).ovl = s.ovl := by
  unfold notifyPlay; split <;> rfl
@[simp] theorem notifyPlay_pend (r : KReg) : (notifyPlay r s).pend = s.pend := by
  unfold notifyPlay; split <;> rfl
@[simp] theorem notifyPlay_mp (r : KReg) : (notifyPlay r s).mp = s.mp := by
  unfold notifyPlay; split <;> rfl
@[simp] theorem notifyPlay_bg (r : KReg) : (notifyPlay r s).bg = s.bg := by
  unfold notifyPlay; split <;> rfl
@[simp] theorem notifyPlay_kctl (r : KReg) : (notifyPlay r s).kctl = s.kctl := by
  unfold notifyPlay; split <;> rfl
@[simp] theorem notifyPlay_kram (r : KReg) : (notifyPlay r s).kram = s.kram := by
  unfold notifyPlay; split <;> rfl
@[simp] theorem notifyPlay_line (r : KReg) : (notifyPlay r s).line = s.line := by
  unfold notifyPlay; split <;> rfl
@[simp] theorem notifyPlay_out (r : KReg) : (notifyPlay r s).out = s.out := by
  unfold notifyPlay; split <;> rfl
@[simp] theorem notifyPlay_pcache (r : KReg) : (notifyPlay r s).pcache = s.pcache := by
  unfold notifyPlay; split <;> rfl
@[simp] theorem notifyPlay_rcd (r : KReg) : (notifyPlay r s).rcd = s.rcd := by
  unfold notifyPlay; split <;> rfl
@[simp] theorem notifyPlay_extcnt (r : KReg) : (notifyPlay r s).extcnt = s.extcnt := by
  unfold notifyPlay; split <;> rfl
@[simp] theorem notifyPlay_lastIrq (r : KReg) : (notifyPlay r s).lastIrq = s.lastIrq := by
  unfold notifyPlay; split <;> rfl
@[simp] theorem notifyPlay_cfg (r : KReg) : (notifyPlay r s).cfg = s.cfg := by
  unfold notifyPlay; split <;> rfl
@[simp] theorem notifyPlay_script (r : KReg) : (notifyPlay r s).script = s.script := by
  unfold notifyPlay; split <;> rfl
@[simp] theorem notifyPlay_requests (r : KReg) : (notifyPlay r s).requests = s.requests := by
  unfold notifyPlay; split <;> rfl
@[simp] theorem notifyPlay_reply (r : KReg) : (notifyPlay r s).reply = s.reply := by
  unfold notifyPlay; split <;> rfl

/-! Register stores. -/

@[simp] theorem kWrite_car (r : KReg) (x : BitVec 32) : (kWrite s r x).car = s.car := by
  cases r <;> rfl
@[simp] theorem kWrite_kar (r : KReg) (x : BitVec 32) : (kWrite s r x).kar = s.kar := by
  cases r <;> rfl
@[simp] theorem kWrite_pic (r : KReg) (x : BitVec 32) : (kWrite s r x).pic = s.pic := by
  cases r <;> rfl
@[simp] theorem kWrite_palette (r : KReg) (x : BitVec 32) : (kWrite s r x).palette = s.palette := by
  cases r <;> rfl
@[simp] theorem kWrite_timing (r : KReg) (x : BitVec 32) : (kWrite s r x).timing = s.timing := by
  cases r <;> rfl
@[simp] theorem kWrite_rc (r : KReg) (x : BitVec 32) : (kWrite s r x).rc = s.rc := by
  cases r <;> rfl
@[simp] theorem kWrite_scsi (r : KReg) (x : BitVec 32) : (kWrite s r x).scsi = s.scsi := by
  cases r <;> rfl
@[simp] theorem kWrite_pend (r : KReg) (x : BitVec 32) : (kWrite s r x).pend = s.pend := by
  cases r <;> rfl
@[simp] theorem kWrite_kram (r : KReg) (x : BitVec 32) : (kWrite s r x).kram = s.kram := by
  cases r <;> rfl
@[simp] theorem kWrite_line (r : KReg) (x : BitVec 32) : (kWrite s r x).line = s.line := by
  cases r <;> rfl
@[simp] theorem kWrite_out (r : KReg) (x : BitVec 32) : (kWrite s r x).out = s.out := by
  cases r <;> rfl
@[simp] theorem kWrite_pcache (r : KReg) (x : BitVec 32) : (kWrite s r x).pcache = s.pcache := by
  cases r <;> rfl
@[simp] theorem kWrite_rcd (r : KReg) (x : BitVec 32) : (kWrite s r x).rcd = s.rcd := by
  cases r <;> rfl
@[simp] theorem kWrite_extcnt (r : KReg) (x : BitVec 32) : (kWrite s r x).extcnt = s.extcnt := by
  cases r <;> rfl
@[simp] theorem kWrite_lastIrq (r : KReg) (x : BitVec 32) : (kWrite s r x).lastIrq = s.lastIrq := by
  cases r <;> rfl
@[simp] theorem kWrite_cfg (r : KReg) (x : BitVec 32) : (kWrite s r x).cfg = s.cfg := by
  cases r <;> rfl
@[simp] theorem kWrite_script (r : KReg) (x : BitVec 32) : (kWrite s r x).script = s.script := by
  cases r <;> rfl
@[simp] theorem kWrite_requests (r : KReg) (x : BitVec 32) : (kWrite s r x).requests = s.requests := by
  cases r <;> rfl
@[simp] theorem kWrite_calls (r : KReg) (x : BitVec 32) : (kWrite s r x).calls = s.calls := by
  cases r <;> rfl
@[simp] theorem kWrite_reply (r : KReg) (x : BitVec 32) : (kWrite s r x).reply = s.reply := by
  cases r <;> rfl

@[simp] theorem kStoreLo_car (r : KReg) (v : Word) : (kStoreLo s r v).car = s.car := by
  simp [kStoreLo]
@[simp] theorem kStoreLo_kar (r : KReg) (v : Word) : (kStoreLo s r v).kar = s.kar := by
  simp [kStoreLo]
@[simp] theorem kStoreLo_pic (r : KReg) (v : Word) : (kStoreLo s r v).pic = s.pic := by
  simp [kStoreLo]
@[simp] theorem kStoreLo_palette (r : KReg) (v : Word) : (kStoreLo s r v).palette = s.palette := by
  simp [kStoreLo]
@[simp] theorem kStoreLo_timing (r : KReg) (v : Word) : (kStoreLo s r v).timing = s.timing := by
  simp [kStoreLo]
@[simp] theorem kStoreLo_rc (r : KReg) (v : Word) : (kStoreLo s r v).rc = s.rc := by
  simp [kStoreLo]
@[simp] theorem kStoreLo_scsi (r : KReg) (v : Word) : (kStoreLo s r v).scsi = s.scsi := by
  simp [kStoreLo]
@[simp] theorem kStoreLo_pend (r : KReg) (v : Word) : (kStoreLo s r v).pend = s.pend := by
  simp [kStoreLo]
@[simp] theorem kStoreLo_kram (r : KReg) (v : Word) : (kStoreLo s r v).kram = s.kram := by
  simp [kStoreLo]
@[simp] theorem kStoreLo_line (r : KReg) (v : Word) : (kStoreLo s r v).line = s.line := by
  simp [kStoreLo]
@[simp] theorem kStoreLo_out (r : KReg) (v : Word) : (kStoreLo s r v).out = s.out := by
  simp [kStoreLo]
@[simp] theorem kStoreLo_pcache (r : KReg) (v : Word) : (kStoreLo s r v).pcache = s.pcache := by
  simp [kStoreLo]
@[simp] theorem kStoreLo_rcd (r : KReg) (v : Word) : (kStoreLo s r v).rcd = s.rcd := by
  simp [kStoreLo]
@[simp] theorem kStoreLo_extcnt (r : KReg) (v : Word) : (kStoreLo s r v).extcnt = s.extcnt := by
  simp [kStoreLo]
@[simp] theorem kStoreLo_lastIrq (r : KReg) (v : Word) : (kStoreLo s r v).lastIrq = s.lastIrq := by
  simp [kStoreLo]
@[simp] theorem kStoreLo_cfg (r : KReg) (v : Word) : (kStoreLo s r v).cfg = s.cfg := by
  simp [kStoreLo]
@[simp] theorem kStoreLo_script (r : KReg) (v : Word) : (kStoreLo s r v).script = s.script := by
  simp [kStoreLo]
@[simp] theorem kStoreLo_requests (r : KReg) (v : Word) : (kStoreLo s r v).requests = s.requests := by
  simp [kStoreLo]
@[simp] theorem kStoreLo_calls (r : KReg) (v : Word) : (kStoreLo s r v).calls = s.calls := by
  simp [kStoreLo]
@[simp] theorem kStoreLo_reply (r : KReg) (v : Word) : (kStoreLo s r v).reply = s.reply := by
  simp [kStoreLo]

@[simp] theorem kStoreHi_car (r : KReg) (v : Word) : (kStoreHi s r v).car = s.car := by
  simp [kStoreHi]
@[simp] theorem kStoreHi_kar (r : KReg) (v : Word) : (kStoreHi s r v).kar = s.kar := by
  simp [kStoreHi]
@[simp] theorem kStoreHi_pic (r : KReg) (v : Word) : (kStoreHi s r v).pic = s.pic := by
  simp [kStoreHi]
@[simp] theorem kStoreHi_palette (r : KReg) (v : Word) : (kStoreHi s r v).palette = s.palette := by
  simp [kStoreHi]
@[simp] theorem kStoreHi_timing (r : KReg) (v : Word) : (kStoreHi s r v).timing = s.timing := by
  simp [kStoreHi]
@[simp] theorem kStoreHi_rc (r : KReg) (v : Word) : (kStoreHi s r v).rc = s.rc := by
  simp [kStoreHi]
@[simp] theorem kStoreHi_scsi (r : KReg) (v : Word) : (kStoreHi s r v).scsi = s.scsi := by
  simp [kStoreHi]
@[simp] theorem kStoreHi_pend (r : KReg) (v : Word) : (kStoreHi s r v).pend = s.pend := by
  simp [kStoreHi]
@[simp] theorem kStoreHi_kram (r : KReg) (v : Word) : (kStoreHi s r v).kram = s.kram := by
  simp [kStoreHi]
@[simp] theorem kStoreHi_line (r : KReg) (v : Word) : (kStoreHi s r v).line = s.line := by
  simp [kStoreHi]
@[simp] theorem kStoreHi_out (r : KReg) (v : Word) : (kStoreHi s r v).out = s.out := by
  simp [kStoreHi]
@[simp] theorem kStoreHi_pcache (r : KReg) (v : Word) : (kStoreHi s r v).pcache = s.pcache := by
  simp [kStoreHi]
@[simp] theorem kStoreHi_rcd (r : KReg) (v : Word) : (kStoreHi s r v).rcd = s.rcd := by
  simp [kStoreHi]
@[simp] theorem kStoreHi_extcnt (r : KReg) (v : Word) : (kStoreHi s r v).extcnt = s.extcnt := by
  simp [kStoreHi]
@[simp] theorem kStoreHi_lastIrq (r : KReg) (v : Word) : (kStoreHi s r v).lastIrq = s.lastIrq := by
  simp [kStoreHi]
@[simp] theorem kStoreHi_cfg (r : KReg) (v : Word) : (kStoreHi s r v).cfg = s.cfg := by
  simp [kStoreHi]
@[simp] theorem kStoreHi_script (r : KReg) (v : Word) : (kStoreHi s r v).script = s.script := by
  simp [kStoreHi]
@[simp] theorem kStoreHi_requests (r : KReg) (v : Word) : (kStoreHi s r v).requests = s.requests := by
  simp [kStoreHi]
@[simp] theorem kStoreHi_calls (r : KReg) (v : Word) : (kStoreHi s r v).calls = s.calls := by
  simp [kStoreHi]
@[simp] theorem kStoreHi_reply (r : KReg) (v : Word) : (kStoreHi s r v).reply = s.reply := by
  simp [kStoreHi]

/-! The halves of a sub-register. -/

theorem getLsbD_mergeLo (r : BitVec 32) (v : Word) (i : Nat) :
    (mergeLo r v).getLsbD i = if i < 16 then v.getLsbD i else r.getLsbD i := by
  have hm : (0xFFFF0000#32).getLsbD i = (decide (16 ≤ i) && decide (i < 32)) := by
    by_cases h : i < 32
    · revert h; revert i; decide
    · rw [BitVec.getLsbD_of_ge _ i (by omega)]; simp [h]
  simp only [mergeLo, BitVec.getLsbD_or, BitVec.getLsbD_and, hm, BitVec.getLsbD_setWidth]
  by_cases h16 : i < 16
  · simp [h16, show ¬ 16 ≤ i by omega, show i < 32 by omega]
  · rw [if_neg h16]
    by_cases h32 : i < 32
    · simp [h32, show 16 ≤ i by omega]
    · simp [h32, BitVec.getLsbD_of_ge r i (by omega)]

theorem getLsbD_mergeHi (r : BitVec 32) (v : Word) (i : Nat) :
    (mergeHi r v).getLsbD i = if i < 16 then r.getLsbD i else v.getLsbD (i - 16) := by
  have hm : (0x0000FFFF#32).getLsbD i = decide (i < 16) := by
    by_cases h : i < 32
    · revert h; revert i; decide
    · rw [BitVec.getLsbD_of_ge _ i (by omega)]; simp [show ¬ i < 16 by omega]
  simp only [mergeHi, BitVec.getLsbD_or, BitVec.getLsbD_and, hm, BitVec.getLsbD_setWidth, BitVec.getLsbD_shiftLeft]
  by_cases h16 : i < 16
  · simp [h16, show i < 32 by omega]
  · by_cases h32 : i < 32
    · simp [h16, h32, show i - 16 < 32 by omega]
    · simp [h16, h32, BitVec.getLsbD_of_ge v (i - 16) (by omega)]

/-! How a request completes. -/

/-- Every completed request answers a next state, with IRQ re-evaluated. -/
theorem complete_eq : complete s = .next (reevalIrq (s.setReply .nothing)) := rfl

theorem answer_eq (r : Word) : answer r s = .next (reevalIrq (s.setReply (.word r))) := rfl

end Sys2Proof.Machine
end

