-- ==== Sys2Proof/Laws/Handshake.lean ====
section
/-! SUPPORT. What the handshake tick and its parts leave alone (45_dma_scsi_handshake.md R501). -/

namespace Sys2Proof.Machine

variable (s : State)

/-! The handshake: only scsi, dma, pend, kram, the queued answers and the calls change. -/

@[simp] theorem stopTransfer_car : (stopTransfer s).car = s.car := rfl
@[simp] theorem stopTransfer_kar : (stopTransfer s).kar = s.kar := rfl
@[simp] theorem stopTransfer_pic : (stopTransfer s).pic = s.pic := rfl
@[simp] theorem stopTransfer_palette : (stopTransfer s).palette = s.palette := rfl
@[simp] theorem stopTransfer_timing : (stopTransfer s).timing = s.timing := rfl
@[simp] theorem stopTransfer_rc : (stopTransfer s).rc = s.rc := rfl
@[simp] theorem stopTransfer_play : (stopTransfer s).play = s.play := rfl
@[simp] theorem stopTransfer_ovl : (stopTransfer s).ovl = s.ovl := rfl
@[simp] theorem stopTransfer_pend : (stopTransfer s).pend = s.pend := rfl
@[simp] theorem stopTransfer_mp : (stopTransfer s).mp = s.mp := rfl
@[simp] theorem stopTransfer_bg : (stopTransfer s).bg = s.bg := rfl
@[simp] theorem stopTransfer_kctl : (stopTransfer s).kctl = s.kctl := rfl
@[simp] theorem stopTransfer_kram : (stopTransfer s).kram = s.kram := rfl
@[simp] theorem stopTransfer_line : (stopTransfer s).line = s.line := rfl
@[simp] theorem stopTransfer_out : (stopTransfer s).out = s.out := rfl
@[simp] theorem stopTransfer_pcache : (stopTransfer s).pcache = s.pcache := rfl
@[simp] theorem stopTransfer_rcd : (stopTransfer s).rcd = s.rcd := rfl
@[simp] theorem stopTransfer_extcnt : (stopTransfer s).extcnt = s.extcnt := rfl
@[simp] theorem stopTransfer_lastIrq : (stopTransfer s).lastIrq = s.lastIrq := rfl
@[simp] theorem stopTransfer_cfg : (stopTransfer s).cfg = s.cfg := rfl
@[simp] theorem stopTransfer_script : (stopTransfer s).script = s.script := rfl
@[simp] theorem stopTransfer_requests : (stopTransfer s).requests = s.requests := rfl
@[simp] theorem stopTransfer_calls : (stopTransfer s).calls = s.calls := rfl
@[simp] theorem stopTransfer_reply : (stopTransfer s).reply = s.reply := rfl

@[simp] theorem stopTransfer_scsi : (stopTransfer s).scsi = { s.scsi with recvAct := false, sendAct := false, drq := false } := rfl
@[simp] theorem stopTransfer_dma : (stopTransfer s).dma = { s.dma with ff := false } := rfl

@[simp] theorem phaseCheck_car (r : Bool) : (phaseCheck r s).car = s.car := by
  unfold phaseCheck; dsimp only; (repeat' split) <;> simp
@[simp] theorem phaseCheck_kar (r : Bool) : (phaseCheck r s).kar = s.kar := by
  unfold phaseCheck; dsimp only; (repeat' split) <;> simp
@[simp] theorem phaseCheck_pic (r : Bool) : (phaseCheck r s).pic = s.pic := by
  unfold phaseCheck; dsimp only; (repeat' split) <;> simp
@[simp] theorem phaseCheck_palette (r : Bool) : (phaseCheck r s).palette = s.palette := by
  unfold phaseCheck; dsimp only; (repeat' split) <;> simp
@[simp] theorem phaseCheck_timing (r : Bool) : (phaseCheck r s).timing = s.timing := by
  unfold phaseCheck; dsimp only; (repeat' split) <;> simp
@[simp] theorem phaseCheck_rc (r : Bool) : (phaseCheck r s).rc = s.rc := by
  unfold phaseCheck; dsimp only; (repeat' split) <;> simp
@[simp] theorem phaseCheck_play (r : Bool) : (phaseCheck r s).play = s.play := by
  unfold phaseCheck; dsimp only; (repeat' split) <;> simp
@[simp] theorem phaseCheck_ovl (r : Bool) : (phaseCheck r s).ovl = s.ovl := by
  unfold phaseCheck; dsimp only; (repeat' split) <;> simp
@[simp] theorem phaseCheck_mp (r : Bool) : (phaseCheck r s).mp = s.mp := by
  unfold phaseCheck; dsimp only; (repeat' split) <;> simp
@[simp] theorem phaseCheck_bg (r : Bool) : (phaseCheck r s).bg = s.bg := by
  unfold phaseCheck; dsimp only; (repeat' split) <;> simp
@[simp] theorem phaseCheck_kctl (r : Bool) : (phaseCheck r s).kctl = s.kctl := by
  unfold phaseCheck; dsimp only; (repeat' split) <;> simp
@[simp] theorem phaseCheck_kram (r : Bool) : (phaseCheck r s).kram = s.kram := by
  unfold phaseCheck; dsimp only; (repeat' split) <;> simp
@[simp] theorem phaseCheck_line (r : Bool) : (phaseCheck r s).line = s.line := by
  unfold phaseCheck; dsimp only; (repeat' split) <;> simp
@[simp] theorem phaseCheck_out (r : Bool) : (phaseCheck r s).out = s.out := by
  unfold phaseCheck; dsimp only; (repeat' split) <;> simp
@[simp] theorem phaseCheck_pcache (r : Bool) : (phaseCheck r s).pcache = s.pcache := by
  unfold phaseCheck; dsimp only; (repeat' split) <;> simp
@[simp] theorem phaseCheck_rcd (r : Bool) : (phaseCheck r s).rcd = s.rcd := by
  unfold phaseCheck; dsimp only; (repeat' split) <;> simp
@[simp] theorem phaseCheck_extcnt (r : Bool) : (phaseCheck r s).extcnt = s.extcnt := by
  unfold phaseCheck; dsimp only; (repeat' split) <;> simp
@[simp] theorem phaseCheck_lastIrq (r : Bool) : (phaseCheck r s).lastIrq = s.lastIrq := by
  unfold phaseCheck; dsimp only; (repeat' split) <;> simp
@[simp] theorem phaseCheck_cfg (r : Bool) : (phaseCheck r s).cfg = s.cfg := by
  unfold phaseCheck; dsimp only; (repeat' split) <;> simp
@[simp] theorem phaseCheck_requests (r : Bool) : (phaseCheck r s).requests = s.requests := by
  unfold phaseCheck; dsimp only; (repeat' split) <;> simp
@[simp] theorem phaseCheck_reply (r : Bool) : (phaseCheck r s).reply = s.reply := by
  unfold phaseCheck; dsimp only; (repeat' split) <;> simp

@[simp] theorem dmaWord_car (b : Byte) : (dmaWord b s).car = s.car := rfl
@[simp] theorem dmaWord_kar (b : Byte) : (dmaWord b s).kar = s.kar := rfl
@[simp] theorem dmaWord_pic (b : Byte) : (dmaWord b s).pic = s.pic := rfl
@[simp] theorem dmaWord_palette (b : Byte) : (dmaWord b s).palette = s.palette := rfl
@[simp] theorem dmaWord_timing (b : Byte) : (dmaWord b s).timing = s.timing := rfl
@[simp] theorem dmaWord_rc (b : Byte) : (dmaWord b s).rc = s.rc := rfl
@[simp] theorem dmaWord_scsi (b : Byte) : (dmaWord b s).scsi = s.scsi := rfl
@[simp] theorem dmaWord_play (b : Byte) : (dmaWord b s).play = s.play := rfl
@[simp] theorem dmaWord_ovl (b : Byte) : (dmaWord b s).ovl = s.ovl := rfl
@[simp] theorem dmaWord_pend (b : Byte) : (dmaWord b s).pend = s.pend := rfl
@[simp] theorem dmaWord_mp (b : Byte) : (dmaWord b s).mp = s.mp := rfl
@[simp] theorem dmaWord_bg (b : Byte) : (dmaWord b s).bg = s.bg := rfl
@[simp] theorem dmaWord_kctl (b : Byte) : (dmaWord b s).kctl = s.kctl := rfl
@[simp] theorem dmaWord_line (b : Byte) : (dmaWord b s).line = s.line := rfl
@[simp] theorem dmaWord_out (b : Byte) : (dmaWord b s).out = s.out := rfl
@[simp] theorem dmaWord_pcache (b : Byte) : (dmaWord b s).pcache = s.pcache := rfl
@[simp] theorem dmaWord_rcd (b : Byte) : (dmaWord b s).rcd = s.rcd := rfl
@[simp] theorem dmaWord_extcnt (b : Byte) : (dmaWord b s).extcnt = s.extcnt := rfl
@[simp] theorem dmaWord_lastIrq (b : Byte) : (dmaWord b s).lastIrq = s.lastIrq := rfl
@[simp] theorem dmaWord_cfg (b : Byte) : (dmaWord b s).cfg = s.cfg := rfl
@[simp] theorem dmaWord_script (b : Byte) : (dmaWord b s).script = s.script := rfl
@[simp] theorem dmaWord_requests (b : Byte) : (dmaWord b s).requests = s.requests := rfl
@[simp] theorem dmaWord_calls (b : Byte) : (dmaWord b s).calls = s.calls := rfl
@[simp] theorem dmaWord_reply (b : Byte) : (dmaWord b s).reply = s.reply := rfl

@[simp] theorem dmaPack_car (b : Byte) : (dmaPack b s).car = s.car := by
  unfold dmaPack; split <;> simp
@[simp] theorem dmaPack_kar (b : Byte) : (dmaPack b s).kar = s.kar := by
  unfold dmaPack; split <;> simp
@[simp] theorem dmaPack_pic (b : Byte) : (dmaPack b s).pic = s.pic := by
  unfold dmaPack; split <;> simp
@[simp] theorem dmaPack_palette (b : Byte) : (dmaPack b s).palette = s.palette := by
  unfold dmaPack; split <;> simp
@[simp] theorem dmaPack_timing (b : Byte) : (dmaPack b s).timing = s.timing := by
  unfold dmaPack; split <;> simp
@[simp] theorem dmaPack_rc (b : Byte) : (dmaPack b s).rc = s.rc := by
  unfold dmaPack; split <;> simp
@[simp] theorem dmaPack_scsi (b : Byte) : (dmaPack b s).scsi = s.scsi := by
  unfold dmaPack; split <;> simp
@[simp] theorem dmaPack_play (b : Byte) : (dmaPack b s).play = s.play := by
  unfold dmaPack; split <;> simp
@[simp] theorem dmaPack_ovl (b : Byte) : (dmaPack b s).ovl = s.ovl := by
  unfold dmaPack; split <;> simp
@[simp] theorem dmaPack_pend (b : Byte) : (dmaPack b s).pend = s.pend := by
  unfold dmaPack; split <;> simp
@[simp] theorem dmaPack_mp (b : Byte) : (dmaPack b s).mp = s.mp := by
  unfold dmaPack; split <;> simp
@[simp] theorem dmaPack_bg (b : Byte) : (dmaPack b s).bg = s.bg := by
  unfold dmaPack; split <;> simp
@[simp] theorem dmaPack_kctl (b : Byte) : (dmaPack b s).kctl = s.kctl := by
  unfold dmaPack; split <;> simp
@[simp] theorem dmaPack_line (b : Byte) : (dmaPack b s).line = s.line := by
  unfold dmaPack; split <;> simp
@[simp] theorem dmaPack_out (b : Byte) : (dmaPack b s).out = s.out := by
  unfold dmaPack; split <;> simp
@[simp] theorem dmaPack_pcache (b : Byte) : (dmaPack b s).pcache = s.pcache := by
  unfold dmaPack; split <;> simp
@[simp] theorem dmaPack_rcd (b : Byte) : (dmaPack b s).rcd = s.rcd := by
  unfold dmaPack; split <;> simp
@[simp] theorem dmaPack_extcnt (b : Byte) : (dmaPack b s).extcnt = s.extcnt := by
  unfold dmaPack; split <;> simp
@[simp] theorem dmaPack_lastIrq (b : Byte) : (dmaPack b s).lastIrq = s.lastIrq := by
  unfold dmaPack; split <;> simp
@[simp] theorem dmaPack_cfg (b : Byte) : (dmaPack b s).cfg = s.cfg := by
  unfold dmaPack; split <;> simp
@[simp] theorem dmaPack_script (b : Byte) : (dmaPack b s).script = s.script := by
  unfold dmaPack; split <;> simp
@[simp] theorem dmaPack_requests (b : Byte) : (dmaPack b s).requests = s.requests := by
  unfold dmaPack; split <;> simp
@[simp] theorem dmaPack_calls (b : Byte) : (dmaPack b s).calls = s.calls := by
  unfold dmaPack; split <;> simp
@[simp] theorem dmaPack_reply (b : Byte) : (dmaPack b s).reply = s.reply := by
  unfold dmaPack; split <;> simp

@[simp] theorem dmaFinish_car : (dmaFinish s).car = s.car := rfl
@[simp] theorem dmaFinish_kar : (dmaFinish s).kar = s.kar := rfl
@[simp] theorem dmaFinish_pic : (dmaFinish s).pic = s.pic := rfl
@[simp] theorem dmaFinish_palette : (dmaFinish s).palette = s.palette := rfl
@[simp] theorem dmaFinish_timing : (dmaFinish s).timing = s.timing := rfl
@[simp] theorem dmaFinish_rc : (dmaFinish s).rc = s.rc := rfl
@[simp] theorem dmaFinish_play : (dmaFinish s).play = s.play := rfl
@[simp] theorem dmaFinish_ovl : (dmaFinish s).ovl = s.ovl := rfl
@[simp] theorem dmaFinish_mp : (dmaFinish s).mp = s.mp := rfl
@[simp] theorem dmaFinish_bg : (dmaFinish s).bg = s.bg := rfl
@[simp] theorem dmaFinish_kctl : (dmaFinish s).kctl = s.kctl := rfl
@[simp] theorem dmaFinish_kram : (dmaFinish s).kram = s.kram := rfl
@[simp] theorem dmaFinish_line : (dmaFinish s).line = s.line := rfl
@[simp] theorem dmaFinish_out : (dmaFinish s).out = s.out := rfl
@[simp] theorem dmaFinish_pcache : (dmaFinish s).pcache = s.pcache := rfl
@[simp] theorem dmaFinish_rcd : (dmaFinish s).rcd = s.rcd := rfl
@[simp] theorem dmaFinish_extcnt : (dmaFinish s).extcnt = s.extcnt := rfl
@[simp] theorem dmaFinish_lastIrq : (dmaFinish s).lastIrq = s.lastIrq := rfl
@[simp] theorem dmaFinish_cfg : (dmaFinish s).cfg = s.cfg := rfl
@[simp] theorem dmaFinish_script : (dmaFinish s).script = s.script := rfl
@[simp] theorem dmaFinish_requests : (dmaFinish s).requests = s.requests := rfl
@[simp] theorem dmaFinish_calls : (dmaFinish s).calls = s.calls := rfl
@[simp] theorem dmaFinish_reply : (dmaFinish s).reply = s.reply := rfl

@[simp] theorem dmaCount_car : (dmaCount s).car = s.car := by
  unfold dmaCount; (repeat' split) <;> simp
@[simp] theorem dmaCount_kar : (dmaCount s).kar = s.kar := by
  unfold dmaCount; (repeat' split) <;> simp
@[simp] theorem dmaCount_pic : (dmaCount s).pic = s.pic := by
  unfold dmaCount; (repeat' split) <;> simp
@[simp] theorem dmaCount_palette : (dmaCount s).palette = s.palette := by
  unfold dmaCount; (repeat' split) <;> simp
@[simp] theorem dmaCount_timing : (dmaCount s).timing = s.timing := by
  unfold dmaCount; (repeat' split) <;> simp
@[simp] theorem dmaCount_rc : (dmaCount s).rc = s.rc := by
  unfold dmaCount; (repeat' split) <;> simp
@[simp] theorem dmaCount_play : (dmaCount s).play = s.play := by
  unfold dmaCount; (repeat' split) <;> simp
@[simp] theorem dmaCount_ovl : (dmaCount s).ovl = s.ovl := by
  unfold dmaCount; (repeat' split) <;> simp
@[simp] theorem dmaCount_mp : (dmaCount s).mp = s.mp := by
  unfold dmaCount; (repeat' split) <;> simp
@[simp] theorem dmaCount_bg : (dmaCount s).bg = s.bg := by
  unfold dmaCount; (repeat' split) <;> simp
@[simp] theorem dmaCount_kctl : (dmaCount s).kctl = s.kctl := by
  unfold dmaCount; (repeat' split) <;> simp
@[simp] theorem dmaCount_kram : (dmaCount s).kram = s.kram := by
  unfold dmaCount; (repeat' split) <;> simp
@[simp] theorem dmaCount_line : (dmaCount s).line = s.line := by
  unfold dmaCount; (repeat' split) <;> simp
@[simp] theorem dmaCount_out : (dmaCount s).out = s.out := by
  unfold dmaCount; (repeat' split) <;> simp
@[simp] theorem dmaCount_pcache : (dmaCount s).pcache = s.pcache := by
  unfold dmaCount; (repeat' split) <;> simp
@[simp] theorem dmaCount_rcd : (dmaCount s).rcd = s.rcd := by
  unfold dmaCount; (repeat' split) <;> simp
@[simp] theorem dmaCount_extcnt : (dmaCount s).extcnt = s.extcnt := by
  unfold dmaCount; (repeat' split) <;> simp
@[simp] theorem dmaCount_lastIrq : (dmaCount s).lastIrq = s.lastIrq := by
  unfold dmaCount; (repeat' split) <;> simp
@[simp] theorem dmaCount_cfg : (dmaCount s).cfg = s.cfg := by
  unfold dmaCount; (repeat' split) <;> simp
@[simp] theorem dmaCount_script : (dmaCount s).script = s.script := by
  unfold dmaCount; (repeat' split) <;> simp
@[simp] theorem dmaCount_requests : (dmaCount s).requests = s.requests := by
  unfold dmaCount; (repeat' split) <;> simp
@[simp] theorem dmaCount_calls : (dmaCount s).calls = s.calls := by
  unfold dmaCount; (repeat' split) <;> simp
@[simp] theorem dmaCount_reply : (dmaCount s).reply = s.reply := by
  unfold dmaCount; (repeat' split) <;> simp

@[simp] theorem receiveByte_car : (receiveByte s).car = s.car := by
  unfold receiveByte; dsimp only; (repeat' split) <;> simp
@[simp] theorem receiveByte_kar : (receiveByte s).kar = s.kar := by
  unfold receiveByte; dsimp only; (repeat' split) <;> simp
@[simp] theorem receiveByte_pic : (receiveByte s).pic = s.pic := by
  unfold receiveByte; dsimp only; (repeat' split) <;> simp
@[simp] theorem receiveByte_palette : (receiveByte s).palette = s.palette := by
  unfold receiveByte; dsimp only; (repeat' split) <;> simp
@[simp] theorem receiveByte_timing : (receiveByte s).timing = s.timing := by
  unfold receiveByte; dsimp only; (repeat' split) <;> simp
@[simp] theorem receiveByte_rc : (receiveByte s).rc = s.rc := by
  unfold receiveByte; dsimp only; (repeat' split) <;> simp
@[simp] theorem receiveByte_play : (receiveByte s).play = s.play := by
  unfold receiveByte; dsimp only; (repeat' split) <;> simp
@[simp] theorem receiveByte_ovl : (receiveByte s).ovl = s.ovl := by
  unfold receiveByte; dsimp only; (repeat' split) <;> simp
@[simp] theorem receiveByte_mp : (receiveByte s).mp = s.mp := by
  unfold receiveByte; dsimp only; (repeat' split) <;> simp
@[simp] theorem receiveByte_bg : (receiveByte s).bg = s.bg := by
  unfold receiveByte; dsimp only; (repeat' split) <;> simp
@[simp] theorem receiveByte_kctl : (receiveByte s).kctl = s.kctl := by
  unfold receiveByte; dsimp only; (repeat' split) <;> simp
@[simp] theorem receiveByte_line : (receiveByte s).line = s.line := by
  unfold receiveByte; dsimp only; (repeat' split) <;> simp
@[simp] theorem receiveByte_out : (receiveByte s).out = s.out := by
  unfold receiveByte; dsimp only; (repeat' split) <;> simp
@[simp] theorem receiveByte_pcache : (receiveByte s).pcache = s.pcache := by
  unfold receiveByte; dsimp only; (repeat' split) <;> simp
@[simp] theorem receiveByte_rcd : (receiveByte s).rcd = s.rcd := by
  unfold receiveByte; dsimp only; (repeat' split) <;> simp
@[simp] theorem receiveByte_extcnt : (receiveByte s).extcnt = s.extcnt := by
  unfold receiveByte; dsimp only; (repeat' split) <;> simp
@[simp] theorem receiveByte_lastIrq : (receiveByte s).lastIrq = s.lastIrq := by
  unfold receiveByte; dsimp only; (repeat' split) <;> simp
@[simp] theorem receiveByte_cfg : (receiveByte s).cfg = s.cfg := by
  unfold receiveByte; dsimp only; (repeat' split) <;> simp
@[simp] theorem receiveByte_requests : (receiveByte s).requests = s.requests := by
  unfold receiveByte; dsimp only; (repeat' split) <;> simp
@[simp] theorem receiveByte_reply : (receiveByte s).reply = s.reply := by
  unfold receiveByte; dsimp only; (repeat' split) <;> simp

@[simp] theorem sendByte_car : (sendByte s).car = s.car := by
  simp [sendByte]
@[simp] theorem sendByte_kar : (sendByte s).kar = s.kar := by
  simp [sendByte]
@[simp] theorem sendByte_pic : (sendByte s).pic = s.pic := by
  simp [sendByte]
@[simp] theorem sendByte_palette : (sendByte s).palette = s.palette := by
  simp [sendByte]
@[simp] theorem sendByte_timing : (sendByte s).timing = s.timing := by
  simp [sendByte]
@[simp] theorem sendByte_rc : (sendByte s).rc = s.rc := by
  simp [sendByte]
@[simp] theorem sendByte_dma : (sendByte s).dma = s.dma := by
  simp [sendByte]
@[simp] theorem sendByte_play : (sendByte s).play = s.play := by
  simp [sendByte]
@[simp] theorem sendByte_ovl : (sendByte s).ovl = s.ovl := by
  simp [sendByte]
@[simp] theorem sendByte_pend : (sendByte s).pend = s.pend := by
  simp [sendByte]
@[simp] theorem sendByte_mp : (sendByte s).mp = s.mp := by
  simp [sendByte]
@[simp] theorem sendByte_bg : (sendByte s).bg = s.bg := by
  simp [sendByte]
@[simp] theorem sendByte_kctl : (sendByte s).kctl = s.kctl := by
  simp [sendByte]
@[simp] theorem sendByte_kram : (sendByte s).kram = s.kram := by
  simp [sendByte]
@[simp] theorem sendByte_line : (sendByte s).line = s.line := by
  simp [sendByte]
@[simp] theorem sendByte_out : (sendByte s).out = s.out := by
  simp [sendByte]
@[simp] theorem sendByte_pcache : (sendByte s).pcache = s.pcache := by
  simp [sendByte]
@[simp] theorem sendByte_rcd : (sendByte s).rcd = s.rcd := by
  simp [sendByte]
@[simp] theorem sendByte_extcnt : (sendByte s).extcnt = s.extcnt := by
  simp [sendByte]
@[simp] theorem sendByte_lastIrq : (sendByte s).lastIrq = s.lastIrq := by
  simp [sendByte]
@[simp] theorem sendByte_cfg : (sendByte s).cfg = s.cfg := by
  simp [sendByte]
@[simp] theorem sendByte_script : (sendByte s).script = s.script := by
  simp [sendByte]
@[simp] theorem sendByte_requests : (sendByte s).requests = s.requests := by
  simp [sendByte]
@[simp] theorem sendByte_reply : (sendByte s).reply = s.reply := by
  simp [sendByte]

@[simp] theorem handshakeTick_car : (handshakeTick s).car = s.car := by
  unfold handshakeTick; dsimp only; (repeat' split) <;> simp
@[simp] theorem handshakeTick_kar : (handshakeTick s).kar = s.kar := by
  unfold handshakeTick; dsimp only; (repeat' split) <;> simp
@[simp] theorem handshakeTick_pic : (handshakeTick s).pic = s.pic := by
  unfold handshakeTick; dsimp only; (repeat' split) <;> simp
@[simp] theorem handshakeTick_palette : (handshakeTick s).palette = s.palette := by
  unfold handshakeTick; dsimp only; (repeat' split) <;> simp
@[simp] theorem handshakeTick_timing : (handshakeTick s).timing = s.timing := by
  unfold handshakeTick; dsimp only; (repeat' split) <;> simp
@[simp] theorem handshakeTick_rc : (handshakeTick s).rc = s.rc := by
  unfold handshakeTick; dsimp only; (repeat' split) <;> simp
@[simp] theorem handshakeTick_play : (handshakeTick s).play = s.play := by
  unfold handshakeTick; dsimp only; (repeat' split) <;> simp
@[simp] theorem handshakeTick_ovl : (handshakeTick s).ovl = s.ovl := by
  unfold handshakeTick; dsimp only; (repeat' split) <;> simp
@[simp] theorem handshakeTick_mp : (handshakeTick s).mp = s.mp := by
  unfold handshakeTick; dsimp only; (repeat' split) <;> simp
@[simp] theorem handshakeTick_bg : (handshakeTick s).bg = s.bg := by
  unfold handshakeTick; dsimp only; (repeat' split) <;> simp
@[simp] theorem handshakeTick_kctl : (handshakeTick s).kctl = s.kctl := by
  unfold handshakeTick; dsimp only; (repeat' split) <;> simp
@[simp] theorem handshakeTick_line : (handshakeTick s).line = s.line := by
  unfold handshakeTick; dsimp only; (repeat' split) <;> simp
@[simp] theorem handshakeTick_out : (handshakeTick s).out = s.out := by
  unfold handshakeTick; dsimp only; (repeat' split) <;> simp
@[simp] theorem handshakeTick_pcache : (handshakeTick s).pcache = s.pcache := by
  unfold handshakeTick; dsimp only; (repeat' split) <;> simp
@[simp] theorem handshakeTick_rcd : (handshakeTick s).rcd = s.rcd := by
  unfold handshakeTick; dsimp only; (repeat' split) <;> simp
@[simp] theorem handshakeTick_extcnt : (handshakeTick s).extcnt = s.extcnt := by
  unfold handshakeTick; dsimp only; (repeat' split) <;> simp
@[simp] theorem handshakeTick_lastIrq : (handshakeTick s).lastIrq = s.lastIrq := by
  unfold handshakeTick; dsimp only; (repeat' split) <;> simp
@[simp] theorem handshakeTick_cfg : (handshakeTick s).cfg = s.cfg := by
  unfold handshakeTick; dsimp only; (repeat' split) <;> simp
@[simp] theorem handshakeTick_requests : (handshakeTick s).requests = s.requests := by
  unfold handshakeTick; dsimp only; (repeat' split) <;> simp
@[simp] theorem handshakeTick_reply : (handshakeTick s).reply = s.reply := by
  unfold handshakeTick; dsimp only; (repeat' split) <;> simp

end Sys2Proof.Machine
end

