-- ==== Sys2Proof/Laws/Scheduler.lean ====
section
/-! SUPPORT. What the scheduler and its parts leave alone, and induction over the chunks of a run
(42_timing_scheduler.md R360). -/

namespace Sys2Proof.Machine

variable (s : State)

/-! The parts of a phase step. -/

@[simp] theorem tileAdvance_car (c : Nat) : (tileAdvance c s).car = s.car := by
  unfold tileAdvance; dsimp only; split <;> simp
@[simp] theorem tileAdvance_kar (c : Nat) : (tileAdvance c s).kar = s.kar := by
  unfold tileAdvance; dsimp only; split <;> simp
@[simp] theorem tileAdvance_pic (c : Nat) : (tileAdvance c s).pic = s.pic := by
  unfold tileAdvance; dsimp only; split <;> simp
@[simp] theorem tileAdvance_palette (c : Nat) : (tileAdvance c s).palette = s.palette := by
  unfold tileAdvance; dsimp only; split <;> simp
@[simp] theorem tileAdvance_rc (c : Nat) : (tileAdvance c s).rc = s.rc := by
  unfold tileAdvance; dsimp only; split <;> simp
@[simp] theorem tileAdvance_scsi (c : Nat) : (tileAdvance c s).scsi = s.scsi := by
  unfold tileAdvance; dsimp only; split <;> simp
@[simp] theorem tileAdvance_dma (c : Nat) : (tileAdvance c s).dma = s.dma := by
  unfold tileAdvance; dsimp only; split <;> simp
@[simp] theorem tileAdvance_play (c : Nat) : (tileAdvance c s).play = s.play := by
  unfold tileAdvance; dsimp only; split <;> simp
@[simp] theorem tileAdvance_ovl (c : Nat) : (tileAdvance c s).ovl = s.ovl := by
  unfold tileAdvance; dsimp only; split <;> simp
@[simp] theorem tileAdvance_pend (c : Nat) : (tileAdvance c s).pend = s.pend := by
  unfold tileAdvance; dsimp only; split <;> simp
@[simp] theorem tileAdvance_mp (c : Nat) : (tileAdvance c s).mp = s.mp := by
  unfold tileAdvance; dsimp only; split <;> simp
@[simp] theorem tileAdvance_bg (c : Nat) : (tileAdvance c s).bg = s.bg := by
  unfold tileAdvance; dsimp only; split <;> simp
@[simp] theorem tileAdvance_kctl (c : Nat) : (tileAdvance c s).kctl = s.kctl := by
  unfold tileAdvance; dsimp only; split <;> simp
@[simp] theorem tileAdvance_kram (c : Nat) : (tileAdvance c s).kram = s.kram := by
  unfold tileAdvance; dsimp only; split <;> simp
@[simp] theorem tileAdvance_out (c : Nat) : (tileAdvance c s).out = s.out := by
  unfold tileAdvance; dsimp only; split <;> simp
@[simp] theorem tileAdvance_pcache (c : Nat) : (tileAdvance c s).pcache = s.pcache := by
  unfold tileAdvance; dsimp only; split <;> simp
@[simp] theorem tileAdvance_rcd (c : Nat) : (tileAdvance c s).rcd = s.rcd := by
  unfold tileAdvance; dsimp only; split <;> simp
@[simp] theorem tileAdvance_extcnt (c : Nat) : (tileAdvance c s).extcnt = s.extcnt := by
  unfold tileAdvance; dsimp only; split <;> simp
@[simp] theorem tileAdvance_lastIrq (c : Nat) : (tileAdvance c s).lastIrq = s.lastIrq := by
  unfold tileAdvance; dsimp only; split <;> simp
@[simp] theorem tileAdvance_cfg (c : Nat) : (tileAdvance c s).cfg = s.cfg := by
  unfold tileAdvance; dsimp only; split <;> simp
@[simp] theorem tileAdvance_requests (c : Nat) : (tileAdvance c s).requests = s.requests := by
  unfold tileAdvance; dsimp only; split <;> simp
@[simp] theorem tileAdvance_reply (c : Nat) : (tileAdvance c s).reply = s.reply := by
  unfold tileAdvance; dsimp only; split <;> simp

@[simp] theorem setPhaseCount_car : (setPhaseCount s).car = s.car := rfl
@[simp] theorem setPhaseCount_kar : (setPhaseCount s).kar = s.kar := rfl
@[simp] theorem setPhaseCount_pic : (setPhaseCount s).pic = s.pic := rfl
@[simp] theorem setPhaseCount_palette : (setPhaseCount s).palette = s.palette := rfl
@[simp] theorem setPhaseCount_rc : (setPhaseCount s).rc = s.rc := rfl
@[simp] theorem setPhaseCount_scsi : (setPhaseCount s).scsi = s.scsi := rfl
@[simp] theorem setPhaseCount_dma : (setPhaseCount s).dma = s.dma := rfl
@[simp] theorem setPhaseCount_play : (setPhaseCount s).play = s.play := rfl
@[simp] theorem setPhaseCount_ovl : (setPhaseCount s).ovl = s.ovl := rfl
@[simp] theorem setPhaseCount_pend : (setPhaseCount s).pend = s.pend := rfl
@[simp] theorem setPhaseCount_mp : (setPhaseCount s).mp = s.mp := rfl
@[simp] theorem setPhaseCount_bg : (setPhaseCount s).bg = s.bg := rfl
@[simp] theorem setPhaseCount_kctl : (setPhaseCount s).kctl = s.kctl := rfl
@[simp] theorem setPhaseCount_kram : (setPhaseCount s).kram = s.kram := rfl
@[simp] theorem setPhaseCount_line : (setPhaseCount s).line = s.line := rfl
@[simp] theorem setPhaseCount_out : (setPhaseCount s).out = s.out := rfl
@[simp] theorem setPhaseCount_pcache : (setPhaseCount s).pcache = s.pcache := rfl
@[simp] theorem setPhaseCount_rcd : (setPhaseCount s).rcd = s.rcd := rfl
@[simp] theorem setPhaseCount_extcnt : (setPhaseCount s).extcnt = s.extcnt := rfl
@[simp] theorem setPhaseCount_lastIrq : (setPhaseCount s).lastIrq = s.lastIrq := rfl
@[simp] theorem setPhaseCount_cfg : (setPhaseCount s).cfg = s.cfg := rfl
@[simp] theorem setPhaseCount_script : (setPhaseCount s).script = s.script := rfl
@[simp] theorem setPhaseCount_requests : (setPhaseCount s).requests = s.requests := rfl
@[simp] theorem setPhaseCount_calls : (setPhaseCount s).calls = s.calls := rfl
@[simp] theorem setPhaseCount_reply : (setPhaseCount s).reply = s.reply := rfl

@[simp] theorem setPhase_car (p : Phase) : (setPhase p s).car = s.car := rfl
@[simp] theorem setPhase_kar (p : Phase) : (setPhase p s).kar = s.kar := rfl
@[simp] theorem setPhase_pic (p : Phase) : (setPhase p s).pic = s.pic := rfl
@[simp] theorem setPhase_palette (p : Phase) : (setPhase p s).palette = s.palette := rfl
@[simp] theorem setPhase_rc (p : Phase) : (setPhase p s).rc = s.rc := rfl
@[simp] theorem setPhase_scsi (p : Phase) : (setPhase p s).scsi = s.scsi := rfl
@[simp] theorem setPhase_dma (p : Phase) : (setPhase p s).dma = s.dma := rfl
@[simp] theorem setPhase_play (p : Phase) : (setPhase p s).play = s.play := rfl
@[simp] theorem setPhase_ovl (p : Phase) : (setPhase p s).ovl = s.ovl := rfl
@[simp] theorem setPhase_pend (p : Phase) : (setPhase p s).pend = s.pend := rfl
@[simp] theorem setPhase_mp (p : Phase) : (setPhase p s).mp = s.mp := rfl
@[simp] theorem setPhase_bg (p : Phase) : (setPhase p s).bg = s.bg := rfl
@[simp] theorem setPhase_kctl (p : Phase) : (setPhase p s).kctl = s.kctl := rfl
@[simp] theorem setPhase_kram (p : Phase) : (setPhase p s).kram = s.kram := rfl
@[simp] theorem setPhase_line (p : Phase) : (setPhase p s).line = s.line := rfl
@[simp] theorem setPhase_out (p : Phase) : (setPhase p s).out = s.out := rfl
@[simp] theorem setPhase_pcache (p : Phase) : (setPhase p s).pcache = s.pcache := rfl
@[simp] theorem setPhase_rcd (p : Phase) : (setPhase p s).rcd = s.rcd := rfl
@[simp] theorem setPhase_extcnt (p : Phase) : (setPhase p s).extcnt = s.extcnt := rfl
@[simp] theorem setPhase_lastIrq (p : Phase) : (setPhase p s).lastIrq = s.lastIrq := rfl
@[simp] theorem setPhase_cfg (p : Phase) : (setPhase p s).cfg = s.cfg := rfl
@[simp] theorem setPhase_script (p : Phase) : (setPhase p s).script = s.script := rfl
@[simp] theorem setPhase_requests (p : Phase) : (setPhase p s).requests = s.requests := rfl
@[simp] theorem setPhase_calls (p : Phase) : (setPhase p s).calls = s.calls := rfl
@[simp] theorem setPhase_reply (p : Phase) : (setPhase p s).reply = s.reply := rfl

@[simp] theorem enterP1_car : (enterP1 s).car = s.car := by
  unfold enterP1; dsimp only; split <;> rfl
@[simp] theorem enterP1_kar : (enterP1 s).kar = s.kar := by
  unfold enterP1; dsimp only; split <;> rfl
@[simp] theorem enterP1_pic : (enterP1 s).pic = s.pic := by
  unfold enterP1; dsimp only; split <;> rfl
@[simp] theorem enterP1_palette : (enterP1 s).palette = s.palette := by
  unfold enterP1; dsimp only; split <;> rfl
@[simp] theorem enterP1_timing : (enterP1 s).timing = s.timing := by
  unfold enterP1; dsimp only; split <;> rfl
@[simp] theorem enterP1_rc : (enterP1 s).rc = s.rc := by
  unfold enterP1; dsimp only; split <;> rfl
@[simp] theorem enterP1_scsi : (enterP1 s).scsi = s.scsi := by
  unfold enterP1; dsimp only; split <;> rfl
@[simp] theorem enterP1_dma : (enterP1 s).dma = s.dma := by
  unfold enterP1; dsimp only; split <;> rfl
@[simp] theorem enterP1_play : (enterP1 s).play = s.play := by
  unfold enterP1; dsimp only; split <;> rfl
@[simp] theorem enterP1_ovl : (enterP1 s).ovl = s.ovl := by
  unfold enterP1; dsimp only; split <;> rfl
@[simp] theorem enterP1_pend : (enterP1 s).pend = s.pend := by
  unfold enterP1; dsimp only; split <;> rfl
@[simp] theorem enterP1_mp : (enterP1 s).mp = s.mp := by
  unfold enterP1; dsimp only; split <;> rfl
@[simp] theorem enterP1_bg : (enterP1 s).bg = s.bg := by
  unfold enterP1; dsimp only; split <;> rfl
@[simp] theorem enterP1_kctl : (enterP1 s).kctl = s.kctl := by
  unfold enterP1; dsimp only; split <;> rfl
@[simp] theorem enterP1_kram : (enterP1 s).kram = s.kram := by
  unfold enterP1; dsimp only; split <;> rfl
@[simp] theorem enterP1_line : (enterP1 s).line = s.line := by
  unfold enterP1; dsimp only; split <;> rfl
@[simp] theorem enterP1_pcache : (enterP1 s).pcache = s.pcache := by
  unfold enterP1; dsimp only; split <;> rfl
@[simp] theorem enterP1_rcd : (enterP1 s).rcd = s.rcd := by
  unfold enterP1; dsimp only; split <;> rfl
@[simp] theorem enterP1_extcnt : (enterP1 s).extcnt = s.extcnt := by
  unfold enterP1; dsimp only; split <;> rfl
@[simp] theorem enterP1_lastIrq : (enterP1 s).lastIrq = s.lastIrq := by
  unfold enterP1; dsimp only; split <;> rfl
@[simp] theorem enterP1_cfg : (enterP1 s).cfg = s.cfg := by
  unfold enterP1; dsimp only; split <;> rfl
@[simp] theorem enterP1_script : (enterP1 s).script = s.script := by
  unfold enterP1; dsimp only; split <;> rfl
@[simp] theorem enterP1_requests : (enterP1 s).requests = s.requests := by
  unfold enterP1; dsimp only; split <;> rfl
@[simp] theorem enterP1_reply : (enterP1 s).reply = s.reply := by
  unfold enterP1; dsimp only; split <;> rfl

@[simp] theorem rasterInterrupt_car : (rasterInterrupt s).car = s.car := by
  unfold rasterInterrupt; split <;> rfl
@[simp] theorem rasterInterrupt_kar : (rasterInterrupt s).kar = s.kar := by
  unfold rasterInterrupt; split <;> rfl
@[simp] theorem rasterInterrupt_pic : (rasterInterrupt s).pic = s.pic := by
  unfold rasterInterrupt; split <;> rfl
@[simp] theorem rasterInterrupt_palette : (rasterInterrupt s).palette = s.palette := by
  unfold rasterInterrupt; split <;> rfl
@[simp] theorem rasterInterrupt_timing : (rasterInterrupt s).timing = s.timing := by
  unfold rasterInterrupt; split <;> rfl
@[simp] theorem rasterInterrupt_rc : (rasterInterrupt s).rc = s.rc := by
  unfold rasterInterrupt; split <;> rfl
@[simp] theorem rasterInterrupt_scsi : (rasterInterrupt s).scsi = s.scsi := by
  unfold rasterInterrupt; split <;> rfl
@[simp] theorem rasterInterrupt_dma : (rasterInterrupt s).dma = s.dma := by
  unfold rasterInterrupt; split <;> rfl
@[simp] theorem rasterInterrupt_play : (rasterInterrupt s).play = s.play := by
  unfold rasterInterrupt; split <;> rfl
@[simp] theorem rasterInterrupt_ovl : (rasterInterrupt s).ovl = s.ovl := by
  unfold rasterInterrupt; split <;> rfl
@[simp] theorem rasterInterrupt_mp : (rasterInterrupt s).mp = s.mp := by
  unfold rasterInterrupt; split <;> rfl
@[simp] theorem rasterInterrupt_bg : (rasterInterrupt s).bg = s.bg := by
  unfold rasterInterrupt; split <;> rfl
@[simp] theorem rasterInterrupt_kctl : (rasterInterrupt s).kctl = s.kctl := by
  unfold rasterInterrupt; split <;> rfl
@[simp] theorem rasterInterrupt_kram : (rasterInterrupt s).kram = s.kram := by
  unfold rasterInterrupt; split <;> rfl
@[simp] theorem rasterInterrupt_line : (rasterInterrupt s).line = s.line := by
  unfold rasterInterrupt; split <;> rfl
@[simp] theorem rasterInterrupt_out : (rasterInterrupt s).out = s.out := by
  unfold rasterInterrupt; split <;> rfl
@[simp] theorem rasterInterrupt_pcache : (rasterInterrupt s).pcache = s.pcache := by
  unfold rasterInterrupt; split <;> rfl
@[simp] theorem rasterInterrupt_rcd : (rasterInterrupt s).rcd = s.rcd := by
  unfold rasterInterrupt; split <;> rfl
@[simp] theorem rasterInterrupt_extcnt : (rasterInterrupt s).extcnt = s.extcnt := by
  unfold rasterInterrupt; split <;> rfl
@[simp] theorem rasterInterrupt_lastIrq : (rasterInterrupt s).lastIrq = s.lastIrq := by
  unfold rasterInterrupt; split <;> rfl
@[simp] theorem rasterInterrupt_cfg : (rasterInterrupt s).cfg = s.cfg := by
  unfold rasterInterrupt; split <;> rfl
@[simp] theorem rasterInterrupt_script : (rasterInterrupt s).script = s.script := by
  unfold rasterInterrupt; split <;> rfl
@[simp] theorem rasterInterrupt_requests : (rasterInterrupt s).requests = s.requests := by
  unfold rasterInterrupt; split <;> rfl
@[simp] theorem rasterInterrupt_calls : (rasterInterrupt s).calls = s.calls := by
  unfold rasterInterrupt; split <;> rfl
@[simp] theorem rasterInterrupt_reply : (rasterInterrupt s).reply = s.reply := by
  unfold rasterInterrupt; split <;> rfl

@[simp] theorem frameBoundary_car : (frameBoundary s).car = s.car := by
  unfold frameBoundary; dsimp only; split <;> rfl
@[simp] theorem frameBoundary_kar : (frameBoundary s).kar = s.kar := by
  unfold frameBoundary; dsimp only; split <;> rfl
@[simp] theorem frameBoundary_pic : (frameBoundary s).pic = s.pic := by
  unfold frameBoundary; dsimp only; split <;> rfl
@[simp] theorem frameBoundary_palette : (frameBoundary s).palette = s.palette := by
  unfold frameBoundary; dsimp only; split <;> rfl
@[simp] theorem frameBoundary_rc : (frameBoundary s).rc = s.rc := by
  unfold frameBoundary; dsimp only; split <;> rfl
@[simp] theorem frameBoundary_scsi : (frameBoundary s).scsi = s.scsi := by
  unfold frameBoundary; dsimp only; split <;> rfl
@[simp] theorem frameBoundary_dma : (frameBoundary s).dma = s.dma := by
  unfold frameBoundary; dsimp only; split <;> rfl
@[simp] theorem frameBoundary_play : (frameBoundary s).play = s.play := by
  unfold frameBoundary; dsimp only; split <;> rfl
@[simp] theorem frameBoundary_ovl : (frameBoundary s).ovl = s.ovl := by
  unfold frameBoundary; dsimp only; split <;> rfl
@[simp] theorem frameBoundary_pend : (frameBoundary s).pend = s.pend := by
  unfold frameBoundary; dsimp only; split <;> rfl
@[simp] theorem frameBoundary_mp : (frameBoundary s).mp = s.mp := by
  unfold frameBoundary; dsimp only; split <;> rfl
@[simp] theorem frameBoundary_bg : (frameBoundary s).bg = s.bg := by
  unfold frameBoundary; dsimp only; split <;> rfl
@[simp] theorem frameBoundary_kctl : (frameBoundary s).kctl = s.kctl := by
  unfold frameBoundary; dsimp only; split <;> rfl
@[simp] theorem frameBoundary_kram : (frameBoundary s).kram = s.kram := by
  unfold frameBoundary; dsimp only; split <;> rfl
@[simp] theorem frameBoundary_line : (frameBoundary s).line = s.line := by
  unfold frameBoundary; dsimp only; split <;> rfl
@[simp] theorem frameBoundary_pcache : (frameBoundary s).pcache = s.pcache := by
  unfold frameBoundary; dsimp only; split <;> rfl
@[simp] theorem frameBoundary_rcd : (frameBoundary s).rcd = s.rcd := by
  unfold frameBoundary; dsimp only; split <;> rfl
@[simp] theorem frameBoundary_extcnt : (frameBoundary s).extcnt = s.extcnt := by
  unfold frameBoundary; dsimp only; split <;> rfl
@[simp] theorem frameBoundary_lastIrq : (frameBoundary s).lastIrq = s.lastIrq := by
  unfold frameBoundary; dsimp only; split <;> rfl
@[simp] theorem frameBoundary_cfg : (frameBoundary s).cfg = s.cfg := by
  unfold frameBoundary; dsimp only; split <;> rfl
@[simp] theorem frameBoundary_script : (frameBoundary s).script = s.script := by
  unfold frameBoundary; dsimp only; split <;> rfl
@[simp] theorem frameBoundary_requests : (frameBoundary s).requests = s.requests := by
  unfold frameBoundary; dsimp only; split <;> rfl
@[simp] theorem frameBoundary_reply : (frameBoundary s).reply = s.reply := by
  unfold frameBoundary; dsimp only; split <;> rfl

@[simp] theorem lineStep_car : (lineStep s).car = s.car := by
  simp [lineStep]
@[simp] theorem lineStep_kar : (lineStep s).kar = s.kar := by
  simp [lineStep]
@[simp] theorem lineStep_pic : (lineStep s).pic = s.pic := by
  simp [lineStep]
@[simp] theorem lineStep_palette : (lineStep s).palette = s.palette := by
  simp [lineStep]
@[simp] theorem lineStep_rc : (lineStep s).rc = s.rc := by
  simp [lineStep]
@[simp] theorem lineStep_scsi : (lineStep s).scsi = s.scsi := by
  simp [lineStep]
@[simp] theorem lineStep_dma : (lineStep s).dma = s.dma := by
  simp [lineStep]
@[simp] theorem lineStep_play : (lineStep s).play = s.play := by
  simp [lineStep]
@[simp] theorem lineStep_ovl : (lineStep s).ovl = s.ovl := by
  simp [lineStep]
@[simp] theorem lineStep_mp : (lineStep s).mp = s.mp := by
  simp [lineStep]
@[simp] theorem lineStep_bg : (lineStep s).bg = s.bg := by
  simp [lineStep]
@[simp] theorem lineStep_kctl : (lineStep s).kctl = s.kctl := by
  simp [lineStep]
@[simp] theorem lineStep_kram : (lineStep s).kram = s.kram := by
  simp [lineStep]
@[simp] theorem lineStep_line : (lineStep s).line = s.line := by
  simp [lineStep]
@[simp] theorem lineStep_pcache : (lineStep s).pcache = s.pcache := by
  simp [lineStep]
@[simp] theorem lineStep_rcd : (lineStep s).rcd = s.rcd := by
  simp [lineStep]
@[simp] theorem lineStep_extcnt : (lineStep s).extcnt = s.extcnt := by
  simp [lineStep]
@[simp] theorem lineStep_lastIrq : (lineStep s).lastIrq = s.lastIrq := by
  simp [lineStep]
@[simp] theorem lineStep_cfg : (lineStep s).cfg = s.cfg := by
  simp [lineStep]
@[simp] theorem lineStep_script : (lineStep s).script = s.script := by
  simp [lineStep]
@[simp] theorem lineStep_requests : (lineStep s).requests = s.requests := by
  simp [lineStep]
@[simp] theorem lineStep_reply : (lineStep s).reply = s.reply := by
  simp [lineStep]

@[simp] theorem latch_car : (latch s).car = s.car := rfl
@[simp] theorem latch_kar : (latch s).kar = s.kar := rfl
@[simp] theorem latch_pic : (latch s).pic = s.pic := rfl
@[simp] theorem latch_palette : (latch s).palette = s.palette := rfl
@[simp] theorem latch_timing : (latch s).timing = s.timing := rfl
@[simp] theorem latch_scsi : (latch s).scsi = s.scsi := rfl
@[simp] theorem latch_dma : (latch s).dma = s.dma := rfl
@[simp] theorem latch_play : (latch s).play = s.play := rfl
@[simp] theorem latch_ovl : (latch s).ovl = s.ovl := rfl
@[simp] theorem latch_pend : (latch s).pend = s.pend := rfl
@[simp] theorem latch_mp : (latch s).mp = s.mp := rfl
@[simp] theorem latch_bg : (latch s).bg = s.bg := rfl
@[simp] theorem latch_kctl : (latch s).kctl = s.kctl := rfl
@[simp] theorem latch_kram : (latch s).kram = s.kram := rfl
@[simp] theorem latch_line : (latch s).line = s.line := rfl
@[simp] theorem latch_out : (latch s).out = s.out := rfl
@[simp] theorem latch_pcache : (latch s).pcache = s.pcache := rfl
@[simp] theorem latch_extcnt : (latch s).extcnt = s.extcnt := rfl
@[simp] theorem latch_lastIrq : (latch s).lastIrq = s.lastIrq := rfl
@[simp] theorem latch_cfg : (latch s).cfg = s.cfg := rfl
@[simp] theorem latch_script : (latch s).script = s.script := rfl
@[simp] theorem latch_requests : (latch s).requests = s.requests := rfl
@[simp] theorem latch_calls : (latch s).calls = s.calls := rfl
@[simp] theorem latch_reply : (latch s).reply = s.reply := rfl

@[simp] theorem bgStep_car : (bgStep s).car = s.car := by
  unfold bgStep; dsimp only; split <;> simp
@[simp] theorem bgStep_kar : (bgStep s).kar = s.kar := by
  unfold bgStep; dsimp only; split <;> simp
@[simp] theorem bgStep_pic : (bgStep s).pic = s.pic := by
  unfold bgStep; dsimp only; split <;> simp
@[simp] theorem bgStep_palette : (bgStep s).palette = s.palette := by
  unfold bgStep; dsimp only; split <;> simp
@[simp] theorem bgStep_timing : (bgStep s).timing = s.timing := by
  unfold bgStep; dsimp only; split <;> simp
@[simp] theorem bgStep_rc : (bgStep s).rc = s.rc := by
  unfold bgStep; dsimp only; split <;> simp
@[simp] theorem bgStep_scsi : (bgStep s).scsi = s.scsi := by
  unfold bgStep; dsimp only; split <;> simp
@[simp] theorem bgStep_dma : (bgStep s).dma = s.dma := by
  unfold bgStep; dsimp only; split <;> simp
@[simp] theorem bgStep_play : (bgStep s).play = s.play := by
  unfold bgStep; dsimp only; split <;> simp
@[simp] theorem bgStep_ovl : (bgStep s).ovl = s.ovl := by
  unfold bgStep; dsimp only; split <;> simp
@[simp] theorem bgStep_pend : (bgStep s).pend = s.pend := by
  unfold bgStep; dsimp only; split <;> simp
@[simp] theorem bgStep_mp : (bgStep s).mp = s.mp := by
  unfold bgStep; dsimp only; split <;> simp
@[simp] theorem bgStep_bg : (bgStep s).bg = s.bg := by
  unfold bgStep; dsimp only; split <;> simp
@[simp] theorem bgStep_kctl : (bgStep s).kctl = s.kctl := by
  unfold bgStep; dsimp only; split <;> simp
@[simp] theorem bgStep_kram : (bgStep s).kram = s.kram := by
  unfold bgStep; dsimp only; split <;> simp
@[simp] theorem bgStep_out : (bgStep s).out = s.out := by
  unfold bgStep; dsimp only; split <;> simp
@[simp] theorem bgStep_pcache : (bgStep s).pcache = s.pcache := by
  unfold bgStep; dsimp only; split <;> simp
@[simp] theorem bgStep_rcd : (bgStep s).rcd = s.rcd := by
  unfold bgStep; dsimp only; split <;> simp
@[simp] theorem bgStep_extcnt : (bgStep s).extcnt = s.extcnt := by
  unfold bgStep; dsimp only; split <;> simp
@[simp] theorem bgStep_lastIrq : (bgStep s).lastIrq = s.lastIrq := by
  unfold bgStep; dsimp only; split <;> simp
@[simp] theorem bgStep_cfg : (bgStep s).cfg = s.cfg := by
  unfold bgStep; dsimp only; split <;> simp
@[simp] theorem bgStep_requests : (bgStep s).requests = s.requests := by
  unfold bgStep; dsimp only; split <;> simp
@[simp] theorem bgStep_reply : (bgStep s).reply = s.reply := by
  unfold bgStep; dsimp only; split <;> simp

@[simp] theorem overlayBlock_car : (overlayBlock s).car = s.car := by
  simp [overlayBlock]
@[simp] theorem overlayBlock_kar : (overlayBlock s).kar = s.kar := by
  simp [overlayBlock]
@[simp] theorem overlayBlock_pic : (overlayBlock s).pic = s.pic := by
  simp [overlayBlock]
@[simp] theorem overlayBlock_palette : (overlayBlock s).palette = s.palette := by
  simp [overlayBlock]
@[simp] theorem overlayBlock_timing : (overlayBlock s).timing = s.timing := by
  simp [overlayBlock]
@[simp] theorem overlayBlock_rc : (overlayBlock s).rc = s.rc := by
  simp [overlayBlock]
@[simp] theorem overlayBlock_scsi : (overlayBlock s).scsi = s.scsi := by
  simp [overlayBlock]
@[simp] theorem overlayBlock_dma : (overlayBlock s).dma = s.dma := by
  simp [overlayBlock]
@[simp] theorem overlayBlock_play : (overlayBlock s).play = s.play := by
  simp [overlayBlock]
@[simp] theorem overlayBlock_pend : (overlayBlock s).pend = s.pend := by
  simp [overlayBlock]
@[simp] theorem overlayBlock_mp : (overlayBlock s).mp = s.mp := by
  simp [overlayBlock]
@[simp] theorem overlayBlock_bg : (overlayBlock s).bg = s.bg := by
  simp [overlayBlock]
@[simp] theorem overlayBlock_kctl : (overlayBlock s).kctl = s.kctl := by
  simp [overlayBlock]
@[simp] theorem overlayBlock_kram : (overlayBlock s).kram = s.kram := by
  simp [overlayBlock]
@[simp] theorem overlayBlock_line : (overlayBlock s).line = s.line := by
  simp [overlayBlock]
@[simp] theorem overlayBlock_out : (overlayBlock s).out = s.out := by
  simp [overlayBlock]
@[simp] theorem overlayBlock_pcache : (overlayBlock s).pcache = s.pcache := by
  simp [overlayBlock]
@[simp] theorem overlayBlock_rcd : (overlayBlock s).rcd = s.rcd := by
  simp [overlayBlock]
@[simp] theorem overlayBlock_extcnt : (overlayBlock s).extcnt = s.extcnt := by
  simp [overlayBlock]
@[simp] theorem overlayBlock_lastIrq : (overlayBlock s).lastIrq = s.lastIrq := by
  simp [overlayBlock]
@[simp] theorem overlayBlock_cfg : (overlayBlock s).cfg = s.cfg := by
  simp [overlayBlock]
@[simp] theorem overlayBlock_requests : (overlayBlock s).requests = s.requests := by
  simp [overlayBlock]
@[simp] theorem overlayBlock_reply : (overlayBlock s).reply = s.reply := by
  simp [overlayBlock]

@[simp] theorem overlayLine_car : (overlayLine s).car = s.car := by
  unfold overlayLine; dsimp only; (repeat' split) <;> simp
@[simp] theorem overlayLine_kar : (overlayLine s).kar = s.kar := by
  unfold overlayLine; dsimp only; (repeat' split) <;> simp
@[simp] theorem overlayLine_pic : (overlayLine s).pic = s.pic := by
  unfold overlayLine; dsimp only; (repeat' split) <;> simp
@[simp] theorem overlayLine_palette : (overlayLine s).palette = s.palette := by
  unfold overlayLine; dsimp only; (repeat' split) <;> simp
@[simp] theorem overlayLine_timing : (overlayLine s).timing = s.timing := by
  unfold overlayLine; dsimp only; (repeat' split) <;> simp
@[simp] theorem overlayLine_rc : (overlayLine s).rc = s.rc := by
  unfold overlayLine; dsimp only; (repeat' split) <;> simp
@[simp] theorem overlayLine_scsi : (overlayLine s).scsi = s.scsi := by
  unfold overlayLine; dsimp only; (repeat' split) <;> simp
@[simp] theorem overlayLine_dma : (overlayLine s).dma = s.dma := by
  unfold overlayLine; dsimp only; (repeat' split) <;> simp
@[simp] theorem overlayLine_play : (overlayLine s).play = s.play := by
  unfold overlayLine; dsimp only; (repeat' split) <;> simp
@[simp] theorem overlayLine_pend : (overlayLine s).pend = s.pend := by
  unfold overlayLine; dsimp only; (repeat' split) <;> simp
@[simp] theorem overlayLine_mp : (overlayLine s).mp = s.mp := by
  unfold overlayLine; dsimp only; (repeat' split) <;> simp
@[simp] theorem overlayLine_bg : (overlayLine s).bg = s.bg := by
  unfold overlayLine; dsimp only; (repeat' split) <;> simp
@[simp] theorem overlayLine_kctl : (overlayLine s).kctl = s.kctl := by
  unfold overlayLine; dsimp only; (repeat' split) <;> simp
@[simp] theorem overlayLine_kram : (overlayLine s).kram = s.kram := by
  unfold overlayLine; dsimp only; (repeat' split) <;> simp
@[simp] theorem overlayLine_out : (overlayLine s).out = s.out := by
  unfold overlayLine; dsimp only; (repeat' split) <;> simp
@[simp] theorem overlayLine_pcache : (overlayLine s).pcache = s.pcache := by
  unfold overlayLine; dsimp only; (repeat' split) <;> simp
@[simp] theorem overlayLine_rcd : (overlayLine s).rcd = s.rcd := by
  unfold overlayLine; dsimp only; (repeat' split) <;> simp
@[simp] theorem overlayLine_extcnt : (overlayLine s).extcnt = s.extcnt := by
  unfold overlayLine; dsimp only; (repeat' split) <;> simp
@[simp] theorem overlayLine_lastIrq : (overlayLine s).lastIrq = s.lastIrq := by
  unfold overlayLine; dsimp only; (repeat' split) <;> simp
@[simp] theorem overlayLine_cfg : (overlayLine s).cfg = s.cfg := by
  unfold overlayLine; dsimp only; (repeat' split) <;> simp
@[simp] theorem overlayLine_requests : (overlayLine s).requests = s.requests := by
  unfold overlayLine; dsimp only; (repeat' split) <;> simp
@[simp] theorem overlayLine_reply : (overlayLine s).reply = s.reply := by
  unfold overlayLine; dsimp only; (repeat' split) <;> simp

@[simp] theorem clearTileBuffer_car : (clearTileBuffer s).car = s.car := rfl
@[simp] theorem clearTileBuffer_kar : (clearTileBuffer s).kar = s.kar := rfl
@[simp] theorem clearTileBuffer_pic : (clearTileBuffer s).pic = s.pic := rfl
@[simp] theorem clearTileBuffer_palette : (clearTileBuffer s).palette = s.palette := rfl
@[simp] theorem clearTileBuffer_timing : (clearTileBuffer s).timing = s.timing := rfl
@[simp] theorem clearTileBuffer_rc : (clearTileBuffer s).rc = s.rc := rfl
@[simp] theorem clearTileBuffer_scsi : (clearTileBuffer s).scsi = s.scsi := rfl
@[simp] theorem clearTileBuffer_dma : (clearTileBuffer s).dma = s.dma := rfl
@[simp] theorem clearTileBuffer_play : (clearTileBuffer s).play = s.play := rfl
@[simp] theorem clearTileBuffer_ovl : (clearTileBuffer s).ovl = s.ovl := rfl
@[simp] theorem clearTileBuffer_pend : (clearTileBuffer s).pend = s.pend := rfl
@[simp] theorem clearTileBuffer_mp : (clearTileBuffer s).mp = s.mp := rfl
@[simp] theorem clearTileBuffer_bg : (clearTileBuffer s).bg = s.bg := rfl
@[simp] theorem clearTileBuffer_kctl : (clearTileBuffer s).kctl = s.kctl := rfl
@[simp] theorem clearTileBuffer_kram : (clearTileBuffer s).kram = s.kram := rfl
@[simp] theorem clearTileBuffer_out : (clearTileBuffer s).out = s.out := rfl
@[simp] theorem clearTileBuffer_pcache : (clearTileBuffer s).pcache = s.pcache := rfl
@[simp] theorem clearTileBuffer_rcd : (clearTileBuffer s).rcd = s.rcd := rfl
@[simp] theorem clearTileBuffer_extcnt : (clearTileBuffer s).extcnt = s.extcnt := rfl
@[simp] theorem clearTileBuffer_lastIrq : (clearTileBuffer s).lastIrq = s.lastIrq := rfl
@[simp] theorem clearTileBuffer_cfg : (clearTileBuffer s).cfg = s.cfg := rfl
@[simp] theorem clearTileBuffer_script : (clearTileBuffer s).script = s.script := rfl
@[simp] theorem clearTileBuffer_requests : (clearTileBuffer s).requests = s.requests := rfl
@[simp] theorem clearTileBuffer_calls : (clearTileBuffer s).calls = s.calls := rfl
@[simp] theorem clearTileBuffer_reply : (clearTileBuffer s).reply = s.reply := rfl

@[simp] theorem enterActive_car : (enterActive s).car = s.car := by
  simp [enterActive]
@[simp] theorem enterActive_kar : (enterActive s).kar = s.kar := by
  simp [enterActive]
@[simp] theorem enterActive_pic : (enterActive s).pic = s.pic := by
  simp [enterActive]
@[simp] theorem enterActive_palette : (enterActive s).palette = s.palette := by
  simp [enterActive]
@[simp] theorem enterActive_timing : (enterActive s).timing = s.timing := by
  simp [enterActive]
@[simp] theorem enterActive_scsi : (enterActive s).scsi = s.scsi := by
  simp [enterActive]
@[simp] theorem enterActive_dma : (enterActive s).dma = s.dma := by
  simp [enterActive]
@[simp] theorem enterActive_play : (enterActive s).play = s.play := by
  simp [enterActive]
@[simp] theorem enterActive_pend : (enterActive s).pend = s.pend := by
  simp [enterActive]
@[simp] theorem enterActive_mp : (enterActive s).mp = s.mp := by
  simp [enterActive]
@[simp] theorem enterActive_bg : (enterActive s).bg = s.bg := by
  simp [enterActive]
@[simp] theorem enterActive_kctl : (enterActive s).kctl = s.kctl := by
  simp [enterActive]
@[simp] theorem enterActive_kram : (enterActive s).kram = s.kram := by
  simp [enterActive]
@[simp] theorem enterActive_out : (enterActive s).out = s.out := by
  simp [enterActive]
@[simp] theorem enterActive_pcache : (enterActive s).pcache = s.pcache := by
  simp [enterActive]
@[simp] theorem enterActive_extcnt : (enterActive s).extcnt = s.extcnt := by
  simp [enterActive]
@[simp] theorem enterActive_lastIrq : (enterActive s).lastIrq = s.lastIrq := by
  simp [enterActive]
@[simp] theorem enterActive_cfg : (enterActive s).cfg = s.cfg := by
  simp [enterActive]
@[simp] theorem enterActive_requests : (enterActive s).requests = s.requests := by
  simp [enterActive]
@[simp] theorem enterActive_reply : (enterActive s).reply = s.reply := by
  simp [enterActive]

@[simp] theorem phaseStep_car : (phaseStep s).car = s.car := by
  unfold phaseStep; (repeat' split) <;> simp
@[simp] theorem phaseStep_kar : (phaseStep s).kar = s.kar := by
  unfold phaseStep; (repeat' split) <;> simp
@[simp] theorem phaseStep_pic : (phaseStep s).pic = s.pic := by
  unfold phaseStep; (repeat' split) <;> simp
@[simp] theorem phaseStep_palette : (phaseStep s).palette = s.palette := by
  unfold phaseStep; (repeat' split) <;> simp
@[simp] theorem phaseStep_scsi : (phaseStep s).scsi = s.scsi := by
  unfold phaseStep; (repeat' split) <;> simp
@[simp] theorem phaseStep_dma : (phaseStep s).dma = s.dma := by
  unfold phaseStep; (repeat' split) <;> simp
@[simp] theorem phaseStep_play : (phaseStep s).play = s.play := by
  unfold phaseStep; (repeat' split) <;> simp
@[simp] theorem phaseStep_mp : (phaseStep s).mp = s.mp := by
  unfold phaseStep; (repeat' split) <;> simp
@[simp] theorem phaseStep_bg : (phaseStep s).bg = s.bg := by
  unfold phaseStep; (repeat' split) <;> simp
@[simp] theorem phaseStep_kctl : (phaseStep s).kctl = s.kctl := by
  unfold phaseStep; (repeat' split) <;> simp
@[simp] theorem phaseStep_kram : (phaseStep s).kram = s.kram := by
  unfold phaseStep; (repeat' split) <;> simp
@[simp] theorem phaseStep_pcache : (phaseStep s).pcache = s.pcache := by
  unfold phaseStep; (repeat' split) <;> simp
@[simp] theorem phaseStep_extcnt : (phaseStep s).extcnt = s.extcnt := by
  unfold phaseStep; (repeat' split) <;> simp
@[simp] theorem phaseStep_lastIrq : (phaseStep s).lastIrq = s.lastIrq := by
  unfold phaseStep; (repeat' split) <;> simp
@[simp] theorem phaseStep_cfg : (phaseStep s).cfg = s.cfg := by
  unfold phaseStep; (repeat' split) <;> simp
@[simp] theorem phaseStep_requests : (phaseStep s).requests = s.requests := by
  unfold phaseStep; (repeat' split) <;> simp
@[simp] theorem phaseStep_reply : (phaseStep s).reply = s.reply := by
  unfold phaseStep; (repeat' split) <;> simp

/-! The services and the loop. -/

@[simp] theorem subchannel_car (e : Bool) : (subchannel e s).car = s.car := by
  unfold subchannel; split <;> rfl
@[simp] theorem subchannel_kar (e : Bool) : (subchannel e s).kar = s.kar := by
  unfold subchannel; split <;> rfl
@[simp] theorem subchannel_pic (e : Bool) : (subchannel e s).pic = s.pic := by
  unfold subchannel; split <;> rfl
@[simp] theorem subchannel_palette (e : Bool) : (subchannel e s).palette = s.palette := by
  unfold subchannel; split <;> rfl
@[simp] theorem subchannel_timing (e : Bool) : (subchannel e s).timing = s.timing := by
  unfold subchannel; split <;> rfl
@[simp] theorem subchannel_rc (e : Bool) : (subchannel e s).rc = s.rc := by
  unfold subchannel; split <;> rfl
@[simp] theorem subchannel_scsi (e : Bool) : (subchannel e s).scsi = s.scsi := by
  unfold subchannel; split <;> rfl
@[simp] theorem subchannel_dma (e : Bool) : (subchannel e s).dma = s.dma := by
  unfold subchannel; split <;> rfl
@[simp] theorem subchannel_play (e : Bool) : (subchannel e s).play = s.play := by
  unfold subchannel; split <;> rfl
@[simp] theorem subchannel_ovl (e : Bool) : (subchannel e s).ovl = s.ovl := by
  unfold subchannel; split <;> rfl
@[simp] theorem subchannel_mp (e : Bool) : (subchannel e s).mp = s.mp := by
  unfold subchannel; split <;> rfl
@[simp] theorem subchannel_bg (e : Bool) : (subchannel e s).bg = s.bg := by
  unfold subchannel; split <;> rfl
@[simp] theorem subchannel_kctl (e : Bool) : (subchannel e s).kctl = s.kctl := by
  unfold subchannel; split <;> rfl
@[simp] theorem subchannel_kram (e : Bool) : (subchannel e s).kram = s.kram := by
  unfold subchannel; split <;> rfl
@[simp] theorem subchannel_line (e : Bool) : (subchannel e s).line = s.line := by
  unfold subchannel; split <;> rfl
@[simp] theorem subchannel_out (e : Bool) : (subchannel e s).out = s.out := by
  unfold subchannel; split <;> rfl
@[simp] theorem subchannel_pcache (e : Bool) : (subchannel e s).pcache = s.pcache := by
  unfold subchannel; split <;> rfl
@[simp] theorem subchannel_rcd (e : Bool) : (subchannel e s).rcd = s.rcd := by
  unfold subchannel; split <;> rfl
@[simp] theorem subchannel_extcnt (e : Bool) : (subchannel e s).extcnt = s.extcnt := by
  unfold subchannel; split <;> rfl
@[simp] theorem subchannel_lastIrq (e : Bool) : (subchannel e s).lastIrq = s.lastIrq := by
  unfold subchannel; split <;> rfl
@[simp] theorem subchannel_cfg (e : Bool) : (subchannel e s).cfg = s.cfg := by
  unfold subchannel; split <;> rfl
@[simp] theorem subchannel_script (e : Bool) : (subchannel e s).script = s.script := by
  unfold subchannel; split <;> rfl
@[simp] theorem subchannel_requests (e : Bool) : (subchannel e s).requests = s.requests := by
  unfold subchannel; split <;> rfl
@[simp] theorem subchannel_calls (e : Bool) : (subchannel e s).calls = s.calls := by
  unfold subchannel; split <;> rfl
@[simp] theorem subchannel_reply (e : Bool) : (subchannel e s).reply = s.reply := by
  unfold subchannel; split <;> rfl

@[simp] theorem extService_car : (extService s).car = s.car := by
  simp [extService]
@[simp] theorem extService_kar : (extService s).kar = s.kar := by
  simp [extService]
@[simp] theorem extService_pic : (extService s).pic = s.pic := by
  simp [extService]
@[simp] theorem extService_palette : (extService s).palette = s.palette := by
  simp [extService]
@[simp] theorem extService_timing : (extService s).timing = s.timing := by
  simp [extService]
@[simp] theorem extService_rc : (extService s).rc = s.rc := by
  simp [extService]
@[simp] theorem extService_scsi : (extService s).scsi = s.scsi := by
  simp [extService]
@[simp] theorem extService_dma : (extService s).dma = s.dma := by
  simp [extService]
@[simp] theorem extService_play : (extService s).play = s.play := by
  simp [extService]
@[simp] theorem extService_ovl : (extService s).ovl = s.ovl := by
  simp [extService]
@[simp] theorem extService_mp : (extService s).mp = s.mp := by
  simp [extService]
@[simp] theorem extService_bg : (extService s).bg = s.bg := by
  simp [extService]
@[simp] theorem extService_kctl : (extService s).kctl = s.kctl := by
  simp [extService]
@[simp] theorem extService_kram : (extService s).kram = s.kram := by
  simp [extService]
@[simp] theorem extService_line : (extService s).line = s.line := by
  simp [extService]
@[simp] theorem extService_out : (extService s).out = s.out := by
  simp [extService]
@[simp] theorem extService_pcache : (extService s).pcache = s.pcache := by
  simp [extService]
@[simp] theorem extService_rcd : (extService s).rcd = s.rcd := by
  simp [extService]
@[simp] theorem extService_lastIrq : (extService s).lastIrq = s.lastIrq := by
  simp [extService]
@[simp] theorem extService_cfg : (extService s).cfg = s.cfg := by
  simp [extService]
@[simp] theorem extService_requests : (extService s).requests = s.requests := by
  simp [extService]
@[simp] theorem extService_reply : (extService s).reply = s.reply := by
  simp [extService]

@[simp] theorem servicePhase_car : (servicePhase s).car = s.car := by
  unfold servicePhase; split <;> simp
@[simp] theorem servicePhase_kar : (servicePhase s).kar = s.kar := by
  unfold servicePhase; split <;> simp
@[simp] theorem servicePhase_pic : (servicePhase s).pic = s.pic := by
  unfold servicePhase; split <;> simp
@[simp] theorem servicePhase_palette : (servicePhase s).palette = s.palette := by
  unfold servicePhase; split <;> simp
@[simp] theorem servicePhase_scsi : (servicePhase s).scsi = s.scsi := by
  unfold servicePhase; split <;> simp
@[simp] theorem servicePhase_dma : (servicePhase s).dma = s.dma := by
  unfold servicePhase; split <;> simp
@[simp] theorem servicePhase_play : (servicePhase s).play = s.play := by
  unfold servicePhase; split <;> simp
@[simp] theorem servicePhase_mp : (servicePhase s).mp = s.mp := by
  unfold servicePhase; split <;> simp
@[simp] theorem servicePhase_bg : (servicePhase s).bg = s.bg := by
  unfold servicePhase; split <;> simp
@[simp] theorem servicePhase_kctl : (servicePhase s).kctl = s.kctl := by
  unfold servicePhase; split <;> simp
@[simp] theorem servicePhase_kram : (servicePhase s).kram = s.kram := by
  unfold servicePhase; split <;> simp
@[simp] theorem servicePhase_pcache : (servicePhase s).pcache = s.pcache := by
  unfold servicePhase; split <;> simp
@[simp] theorem servicePhase_extcnt : (servicePhase s).extcnt = s.extcnt := by
  unfold servicePhase; split <;> simp
@[simp] theorem servicePhase_cfg : (servicePhase s).cfg = s.cfg := by
  unfold servicePhase; split <;> simp
@[simp] theorem servicePhase_requests : (servicePhase s).requests = s.requests := by
  unfold servicePhase; split <;> simp
@[simp] theorem servicePhase_reply : (servicePhase s).reply = s.reply := by
  unfold servicePhase; split <;> simp

@[simp] theorem serviceHandshake_car : (serviceHandshake s).car = s.car := by
  unfold serviceHandshake; dsimp only; split <;> simp
@[simp] theorem serviceHandshake_kar : (serviceHandshake s).kar = s.kar := by
  unfold serviceHandshake; dsimp only; split <;> simp
@[simp] theorem serviceHandshake_pic : (serviceHandshake s).pic = s.pic := by
  unfold serviceHandshake; dsimp only; split <;> simp
@[simp] theorem serviceHandshake_palette : (serviceHandshake s).palette = s.palette := by
  unfold serviceHandshake; dsimp only; split <;> simp
@[simp] theorem serviceHandshake_rc : (serviceHandshake s).rc = s.rc := by
  unfold serviceHandshake; dsimp only; split <;> simp
@[simp] theorem serviceHandshake_play : (serviceHandshake s).play = s.play := by
  unfold serviceHandshake; dsimp only; split <;> simp
@[simp] theorem serviceHandshake_ovl : (serviceHandshake s).ovl = s.ovl := by
  unfold serviceHandshake; dsimp only; split <;> simp
@[simp] theorem serviceHandshake_mp : (serviceHandshake s).mp = s.mp := by
  unfold serviceHandshake; dsimp only; split <;> simp
@[simp] theorem serviceHandshake_bg : (serviceHandshake s).bg = s.bg := by
  unfold serviceHandshake; dsimp only; split <;> simp
@[simp] theorem serviceHandshake_kctl : (serviceHandshake s).kctl = s.kctl := by
  unfold serviceHandshake; dsimp only; split <;> simp
@[simp] theorem serviceHandshake_line : (serviceHandshake s).line = s.line := by
  unfold serviceHandshake; dsimp only; split <;> simp
@[simp] theorem serviceHandshake_out : (serviceHandshake s).out = s.out := by
  unfold serviceHandshake; dsimp only; split <;> simp
@[simp] theorem serviceHandshake_pcache : (serviceHandshake s).pcache = s.pcache := by
  unfold serviceHandshake; dsimp only; split <;> simp
@[simp] theorem serviceHandshake_rcd : (serviceHandshake s).rcd = s.rcd := by
  unfold serviceHandshake; dsimp only; split <;> simp
@[simp] theorem serviceHandshake_extcnt : (serviceHandshake s).extcnt = s.extcnt := by
  unfold serviceHandshake; dsimp only; split <;> simp
@[simp] theorem serviceHandshake_cfg : (serviceHandshake s).cfg = s.cfg := by
  unfold serviceHandshake; dsimp only; split <;> simp
@[simp] theorem serviceHandshake_requests : (serviceHandshake s).requests = s.requests := by
  unfold serviceHandshake; dsimp only; split <;> simp
@[simp] theorem serviceHandshake_reply : (serviceHandshake s).reply = s.reply := by
  unfold serviceHandshake; dsimp only; split <;> simp

@[simp] theorem serviceExternal_car : (serviceExternal s).car = s.car := by
  unfold serviceExternal; split <;> simp
@[simp] theorem serviceExternal_kar : (serviceExternal s).kar = s.kar := by
  unfold serviceExternal; split <;> simp
@[simp] theorem serviceExternal_pic : (serviceExternal s).pic = s.pic := by
  unfold serviceExternal; split <;> simp
@[simp] theorem serviceExternal_palette : (serviceExternal s).palette = s.palette := by
  unfold serviceExternal; split <;> simp
@[simp] theorem serviceExternal_timing : (serviceExternal s).timing = s.timing := by
  unfold serviceExternal; split <;> simp
@[simp] theorem serviceExternal_rc : (serviceExternal s).rc = s.rc := by
  unfold serviceExternal; split <;> simp
@[simp] theorem serviceExternal_scsi : (serviceExternal s).scsi = s.scsi := by
  unfold serviceExternal; split <;> simp
@[simp] theorem serviceExternal_dma : (serviceExternal s).dma = s.dma := by
  unfold serviceExternal; split <;> simp
@[simp] theorem serviceExternal_play : (serviceExternal s).play = s.play := by
  unfold serviceExternal; split <;> simp
@[simp] theorem serviceExternal_ovl : (serviceExternal s).ovl = s.ovl := by
  unfold serviceExternal; split <;> simp
@[simp] theorem serviceExternal_mp : (serviceExternal s).mp = s.mp := by
  unfold serviceExternal; split <;> simp
@[simp] theorem serviceExternal_bg : (serviceExternal s).bg = s.bg := by
  unfold serviceExternal; split <;> simp
@[simp] theorem serviceExternal_kctl : (serviceExternal s).kctl = s.kctl := by
  unfold serviceExternal; split <;> simp
@[simp] theorem serviceExternal_kram : (serviceExternal s).kram = s.kram := by
  unfold serviceExternal; split <;> simp
@[simp] theorem serviceExternal_line : (serviceExternal s).line = s.line := by
  unfold serviceExternal; split <;> simp
@[simp] theorem serviceExternal_out : (serviceExternal s).out = s.out := by
  unfold serviceExternal; split <;> simp
@[simp] theorem serviceExternal_pcache : (serviceExternal s).pcache = s.pcache := by
  unfold serviceExternal; split <;> simp
@[simp] theorem serviceExternal_rcd : (serviceExternal s).rcd = s.rcd := by
  unfold serviceExternal; split <;> simp
@[simp] theorem serviceExternal_cfg : (serviceExternal s).cfg = s.cfg := by
  unfold serviceExternal; split <;> simp
@[simp] theorem serviceExternal_requests : (serviceExternal s).requests = s.requests := by
  unfold serviceExternal; split <;> simp
@[simp] theorem serviceExternal_reply : (serviceExternal s).reply = s.reply := by
  unfold serviceExternal; split <;> simp

@[simp] theorem service_car : (service s).car = s.car := by
  simp [service]
@[simp] theorem service_kar : (service s).kar = s.kar := by
  simp [service]
@[simp] theorem service_pic : (service s).pic = s.pic := by
  simp [service]
@[simp] theorem service_palette : (service s).palette = s.palette := by
  simp [service]
@[simp] theorem service_play : (service s).play = s.play := by
  simp [service]
@[simp] theorem service_mp : (service s).mp = s.mp := by
  simp [service]
@[simp] theorem service_bg : (service s).bg = s.bg := by
  simp [service]
@[simp] theorem service_kctl : (service s).kctl = s.kctl := by
  simp [service]
@[simp] theorem service_pcache : (service s).pcache = s.pcache := by
  simp [service]
@[simp] theorem service_cfg : (service s).cfg = s.cfg := by
  simp [service]
@[simp] theorem service_requests : (service s).requests = s.requests := by
  simp [service]
@[simp] theorem service_reply : (service s).reply = s.reply := by
  simp [service]

@[simp] theorem countDown_car (c : Nat) : (countDown c s).car = s.car := rfl
@[simp] theorem countDown_kar (c : Nat) : (countDown c s).kar = s.kar := rfl
@[simp] theorem countDown_pic (c : Nat) : (countDown c s).pic = s.pic := rfl
@[simp] theorem countDown_palette (c : Nat) : (countDown c s).palette = s.palette := rfl
@[simp] theorem countDown_rc (c : Nat) : (countDown c s).rc = s.rc := rfl
@[simp] theorem countDown_scsi (c : Nat) : (countDown c s).scsi = s.scsi := rfl
@[simp] theorem countDown_dma (c : Nat) : (countDown c s).dma = s.dma := rfl
@[simp] theorem countDown_play (c : Nat) : (countDown c s).play = s.play := rfl
@[simp] theorem countDown_ovl (c : Nat) : (countDown c s).ovl = s.ovl := rfl
@[simp] theorem countDown_pend (c : Nat) : (countDown c s).pend = s.pend := rfl
@[simp] theorem countDown_mp (c : Nat) : (countDown c s).mp = s.mp := rfl
@[simp] theorem countDown_bg (c : Nat) : (countDown c s).bg = s.bg := rfl
@[simp] theorem countDown_kctl (c : Nat) : (countDown c s).kctl = s.kctl := rfl
@[simp] theorem countDown_kram (c : Nat) : (countDown c s).kram = s.kram := rfl
@[simp] theorem countDown_line (c : Nat) : (countDown c s).line = s.line := rfl
@[simp] theorem countDown_out (c : Nat) : (countDown c s).out = s.out := rfl
@[simp] theorem countDown_pcache (c : Nat) : (countDown c s).pcache = s.pcache := rfl
@[simp] theorem countDown_rcd (c : Nat) : (countDown c s).rcd = s.rcd := rfl
@[simp] theorem countDown_lastIrq (c : Nat) : (countDown c s).lastIrq = s.lastIrq := rfl
@[simp] theorem countDown_cfg (c : Nat) : (countDown c s).cfg = s.cfg := rfl
@[simp] theorem countDown_script (c : Nat) : (countDown c s).script = s.script := rfl
@[simp] theorem countDown_requests (c : Nat) : (countDown c s).requests = s.requests := rfl
@[simp] theorem countDown_calls (c : Nat) : (countDown c s).calls = s.calls := rfl
@[simp] theorem countDown_reply (c : Nat) : (countDown c s).reply = s.reply := rfl

@[simp] theorem runChunk_car (c : Nat) : (runChunk c s).car = s.car := by
  simp [runChunk]
@[simp] theorem runChunk_kar (c : Nat) : (runChunk c s).kar = s.kar := by
  simp [runChunk]
@[simp] theorem runChunk_pic (c : Nat) : (runChunk c s).pic = s.pic := by
  simp [runChunk]
@[simp] theorem runChunk_palette (c : Nat) : (runChunk c s).palette = s.palette := by
  simp [runChunk]
@[simp] theorem runChunk_play (c : Nat) : (runChunk c s).play = s.play := by
  simp [runChunk]
@[simp] theorem runChunk_mp (c : Nat) : (runChunk c s).mp = s.mp := by
  simp [runChunk]
@[simp] theorem runChunk_bg (c : Nat) : (runChunk c s).bg = s.bg := by
  simp [runChunk]
@[simp] theorem runChunk_kctl (c : Nat) : (runChunk c s).kctl = s.kctl := by
  simp [runChunk]
@[simp] theorem runChunk_pcache (c : Nat) : (runChunk c s).pcache = s.pcache := by
  simp [runChunk]
@[simp] theorem runChunk_cfg (c : Nat) : (runChunk c s).cfg = s.cfg := by
  simp [runChunk]
@[simp] theorem runChunk_requests (c : Nat) : (runChunk c s).requests = s.requests := by
  simp [runChunk]
@[simp] theorem runChunk_reply (c : Nat) : (runChunk c s).reply = s.reply := by
  simp [runChunk]

/-- What every chunk keeps, the loop keeps: induction over the chunks of a run, stated once. -/
theorem runLoop_induction (P : State → Prop) (hstep : ∀ (c : Nat) (s : State), P s → P (runChunk c s)) :
    ∀ (fuel left : Nat) (s : State), P s → P (runLoop fuel left s)
  | 0, _, _, h => h
  | fuel + 1, left, s, h => by
    unfold runLoop
    split
    · exact h
    · exact runLoop_induction P hstep fuel _ _ (hstep _ _ h)

theorem runClocks_induction (P : State → Prop) (hstep : ∀ (c : Nat) (s : State), P s → P (runChunk c s))
    (n : Nat) (s : State) (h : P s) : P (runClocks n s) := runLoop_induction P hstep n n s h

@[simp] theorem runClocks_car (n : Nat) : (runClocks n s).car = s.car :=
  runClocks_induction (fun t => t.car = s.car) (fun c t h => by simpa using h) n s rfl
@[simp] theorem runClocks_kar (n : Nat) : (runClocks n s).kar = s.kar :=
  runClocks_induction (fun t => t.kar = s.kar) (fun c t h => by simpa using h) n s rfl
@[simp] theorem runClocks_pic (n : Nat) : (runClocks n s).pic = s.pic :=
  runClocks_induction (fun t => t.pic = s.pic) (fun c t h => by simpa using h) n s rfl
@[simp] theorem runClocks_palette (n : Nat) : (runClocks n s).palette = s.palette :=
  runClocks_induction (fun t => t.palette = s.palette) (fun c t h => by simpa using h) n s rfl
@[simp] theorem runClocks_play (n : Nat) : (runClocks n s).play = s.play :=
  runClocks_induction (fun t => t.play = s.play) (fun c t h => by simpa using h) n s rfl
@[simp] theorem runClocks_mp (n : Nat) : (runClocks n s).mp = s.mp :=
  runClocks_induction (fun t => t.mp = s.mp) (fun c t h => by simpa using h) n s rfl
@[simp] theorem runClocks_bg (n : Nat) : (runClocks n s).bg = s.bg :=
  runClocks_induction (fun t => t.bg = s.bg) (fun c t h => by simpa using h) n s rfl
@[simp] theorem runClocks_kctl (n : Nat) : (runClocks n s).kctl = s.kctl :=
  runClocks_induction (fun t => t.kctl = s.kctl) (fun c t h => by simpa using h) n s rfl
@[simp] theorem runClocks_pcache (n : Nat) : (runClocks n s).pcache = s.pcache :=
  runClocks_induction (fun t => t.pcache = s.pcache) (fun c t h => by simpa using h) n s rfl
@[simp] theorem runClocks_cfg (n : Nat) : (runClocks n s).cfg = s.cfg :=
  runClocks_induction (fun t => t.cfg = s.cfg) (fun c t h => by simpa using h) n s rfl
@[simp] theorem runClocks_requests (n : Nat) : (runClocks n s).requests = s.requests :=
  runClocks_induction (fun t => t.requests = s.requests) (fun c t h => by simpa using h) n s rfl
@[simp] theorem runClocks_reply (n : Nat) : (runClocks n s).reply = s.reply :=
  runClocks_induction (fun t => t.reply = s.reply) (fun c t h => by simpa using h) n s rfl

end Sys2Proof.Machine
end

