-- ==== Sys2Proof/Laws/Completion.lean ====
section
/-! SUPPORT. From the shape of a meaning to `Completes`: what a completed request leaves (60_exceptions.md R551). -/

namespace Sys2Proof.Machine

/-- Re-evaluating IRQ tells the host the level if it changed, and does nothing else. -/
theorem told_reevalIrq (s : State) : Told s (reevalIrq s) := by
  unfold Told reevalIrq
  by_cases h : irqLevel s = s.lastIrq
  · rw [if_pos h, if_pos h.symm, h]; rfl
  · rw [if_neg h, if_neg (Ne.symm h)]; rfl

/-- The state a completed request leaves is the one `Told` names. -/
theorem told_iff (s t : State) : Told s t ↔ t = reevalIrq s := by
  have h := told_reevalIrq s
  unfold Told at h ⊢
  rw [← h]

theorem completes_of_complete {i : Instr} {s e : State} (h : exec i s = complete e) : Completes i s .nothing e :=
  ⟨_, h.trans (complete_eq e), told_reevalIrq _⟩

theorem completes_of_answer {i : Instr} {s e : State} {r : Word} (h : exec i s = answer r e) :
    Completes i s (.word r) e :=
  ⟨_, h.trans (answer_eq e r), told_reevalIrq _⟩

/-- `Completes` names the next state. -/
theorem completes_iff (i : Instr) (s : State) (r : Reply) (e : State) :
    Completes i s r e ↔ exec i s = .next (reevalIrq (e.setReply r)) := by
  constructor
  · rintro ⟨t, h, ht⟩
    rw [h, (told_iff _ _).1 ht]
  · intro h
    exact ⟨_, h, told_reevalIrq _⟩

end Sys2Proof.Machine
end

