-- ==== Sys2Proof/Laws/Memory.lean ====
section
/-! SUPPORT. KRAM: what reading after a write gives, and that every operation keeps the canonical form. -/

namespace Sys2Proof

theorem Memory.wfFrom_mono {lo lo' : Nat} (h : lo' ≤ lo) {m : Memory} (hm : Memory.wfFrom lo m = true) :
    Memory.wfFrom lo' m = true := by
  cases m with
  | nil => rfl
  | cons c rest =>
    simp only [Memory.wfFrom, Bool.and_eq_true, decide_eq_true_eq] at hm ⊢
    exact ⟨⟨⟨by omega, hm.1.1.2⟩, hm.1.2⟩, hm.2⟩

/-- An address below every cell reads as unlisted. -/
theorem Memory.readByte_below {lo a : Nat} (h : a < lo) :
    ∀ {m : Memory}, Memory.wfFrom lo m = true → m.readByte a = Memory.unlisted
  | [], _ => rfl
  | c :: rest, hm => by
    simp only [Memory.wfFrom, Bool.and_eq_true, decide_eq_true_eq] at hm
    have hr := Memory.readByte_below (lo := c.1 + 1) (a := a) (by omega) (m := rest) hm.2
    simp only [Memory.readByte]
    rw [if_neg (by omega), hr]

theorem Memory.readByte_cons_same {lo a : Nat} (v : Byte) {m : Memory} (hm : Memory.wfFrom lo m = true)
    (h : a < lo) : (Memory.cons a v m).readByte a = v := by
  unfold Memory.cons
  split
  · rename_i hv; rw [hv]; exact Memory.readByte_below h hm
  · simp [Memory.readByte]

theorem Memory.readByte_cons_other {a b : Nat} (v : Byte) (m : Memory) (h : a ≠ b) :
    (Memory.cons a v m).readByte b = m.readByte b := by
  unfold Memory.cons
  split
  · rfl
  · simp [Memory.readByte, h]

theorem Memory.wfFrom_cons {lo a : Nat} (v : Byte) {m : Memory} (hlo : lo ≤ a) (hs : a < Memory.size)
    (hm : Memory.wfFrom (a + 1) m = true) : Memory.wfFrom lo (Memory.cons a v m) = true := by
  unfold Memory.cons
  split
  · exact Memory.wfFrom_mono (by omega) hm
  · rename_i hv
    simp only [Memory.wfFrom, Bool.and_eq_true, decide_eq_true_eq]
    exact ⟨⟨⟨hlo, hs⟩, hv⟩, hm⟩

/-- Read after a write to the same byte. -/
theorem Memory.readByte_writeByte_same {a : Nat} (v : Byte) :
    ∀ {lo : Nat} {m : Memory}, Memory.wfFrom lo m = true → (m.writeByte a v).readByte a = v
  | _, [], _ => Memory.readByte_cons_same (lo := a + 1) v rfl (by omega)
  | _, c :: rest, hm => by
    simp only [Memory.wfFrom, Bool.and_eq_true, decide_eq_true_eq] at hm
    simp only [Memory.writeByte]
    split
    · refine Memory.readByte_cons_same (lo := c.1) v ?_ (by omega)
      simp only [Memory.wfFrom, Bool.and_eq_true, decide_eq_true_eq]
      exact ⟨⟨⟨Nat.le_refl _, hm.1.1.2⟩, hm.1.2⟩, hm.2⟩
    · split
      · exact Memory.readByte_cons_same (lo := c.1 + 1) v hm.2 (by omega)
      · rw [Memory.readByte, if_neg (by omega)]
        exact Memory.readByte_writeByte_same v hm.2

/-- A write leaves every other byte alone. -/
theorem Memory.readByte_writeByte_other {a b : Nat} (v : Byte) (h : a ≠ b) :
    ∀ m : Memory, (m.writeByte a v).readByte b = m.readByte b
  | [] => Memory.readByte_cons_other v [] h
  | c :: rest => by
    simp only [Memory.writeByte]
    split
    · exact Memory.readByte_cons_other v _ h
    · split
      · rename_i hc
        rw [Memory.readByte_cons_other v _ h, Memory.readByte, if_neg (by omega)]
      · simp only [Memory.readByte]
        rw [Memory.readByte_writeByte_other v h rest]

/-- A write inside KRAM keeps the canonical form. -/
theorem Memory.wfFrom_writeByte {a : Nat} (v : Byte) (hs : a < Memory.size) :
    ∀ {lo : Nat} {m : Memory}, lo ≤ a → Memory.wfFrom lo m = true → Memory.wfFrom lo (m.writeByte a v) = true
  | lo, [], h, _ => Memory.wfFrom_cons v h hs rfl
  | lo, c :: rest, h, hm => by
    simp only [Memory.wfFrom, Bool.and_eq_true, decide_eq_true_eq] at hm
    simp only [Memory.writeByte]
    split
    · refine Memory.wfFrom_cons v h hs ?_
      simp only [Memory.wfFrom, Bool.and_eq_true, decide_eq_true_eq]
      exact ⟨⟨⟨by omega, hm.1.1.2⟩, hm.1.2⟩, hm.2⟩
    · split
      · rename_i hc
        exact Memory.wfFrom_cons v h hs (Memory.wfFrom_mono (by omega) hm.2)
      · simp only [Memory.wfFrom, Bool.and_eq_true, decide_eq_true_eq]
        exact ⟨hm.1, Memory.wfFrom_writeByte v hs (by omega) hm.2⟩

theorem Memory.wf_writeByte {m : Memory} {a : Nat} (v : Byte) (hs : a < Memory.size) (hm : m.wf = true) :
    (m.writeByte a v).wf = true := Memory.wfFrom_writeByte v hs (Nat.zero_le _) hm

/-- Two canonical memories that read alike everywhere are equal. -/
theorem Memory.ext_of_wfFrom : ∀ {lo : Nat} {m n : Memory}, Memory.wfFrom lo m = true → Memory.wfFrom lo n = true →
    (∀ a, m.readByte a = n.readByte a) → m = n
  | _, [], [], _, _, _ => rfl
  | _, [], c :: rest, _, hn, h => by
    simp only [Memory.wfFrom, Bool.and_eq_true, decide_eq_true_eq] at hn
    have := h c.1
    simp only [Memory.readByte, if_true] at this
    exact absurd this.symm hn.1.2
  | _, c :: rest, [], hm, _, h => by
    simp only [Memory.wfFrom, Bool.and_eq_true, decide_eq_true_eq] at hm
    have := h c.1
    simp only [Memory.readByte, if_true] at this
    exact absurd this hm.1.2
  | _, c :: rest, d :: rest', hm, hn, h => by
    have hm0 := hm
    have hn0 := hn
    simp only [Memory.wfFrom, Bool.and_eq_true, decide_eq_true_eq] at hm hn
    have key : c.1 = d.1 := by
      by_contra hne
      rcases Nat.lt_or_gt_of_ne hne with hlt | hlt
      · have h1 := h c.1
        simp only [Memory.readByte, if_true] at h1
        rw [if_neg (by omega), Memory.readByte_below (lo := d.1 + 1) (by omega) hn.2] at h1
        exact hm.1.2 h1
      · have h1 := h d.1
        simp only [Memory.readByte, if_true] at h1
        rw [if_neg (by omega), Memory.readByte_below (lo := c.1 + 1) (by omega) hm.2] at h1
        exact hn.1.2 h1.symm
    have hv : c.2 = d.2 := by
      have h1 := h c.1
      simpa [Memory.readByte, key] using h1
    have hr : rest = rest' := by
      refine Memory.ext_of_wfFrom (lo := c.1 + 1) hm.2 (by rw [key]; exact hn.2) fun a => ?_
      by_cases ha : a < c.1 + 1
      · rw [Memory.readByte_below ha hm.2, Memory.readByte_below (by omega) hn.2]
      · have h1 := h a
        simp only [Memory.readByte] at h1
        rwa [if_neg (by omega), if_neg (by omega)] at h1
    rw [Prod.ext key hv, hr]

theorem Memory.ext_of_wf {m n : Memory} (hm : m.wf = true) (hn : n.wf = true)
    (h : ∀ a, m.readByte a = n.readByte a) : m = n := Memory.ext_of_wfFrom hm hn h

/-- RESTORE stores a canonical memory, whatever it is given. -/
theorem Memory.wf_canonical : ∀ m : Memory, m.canonical.wf = true
  | [] => rfl
  | c :: rest => by
    simp only [Memory.canonical]
    split
    · exact Memory.wf_writeByte _ ‹_› (Memory.wf_canonical rest)
    · exact Memory.wf_canonical rest

/-- A canonical memory is its own canonical form. -/
theorem Memory.canonical_of_wfFrom : ∀ {lo : Nat} {m : Memory}, Memory.wfFrom lo m = true → m.canonical = m
  | _, [], _ => rfl
  | _, c :: rest, hm => by
    simp only [Memory.wfFrom, Bool.and_eq_true, decide_eq_true_eq] at hm
    simp only [Memory.canonical]
    rw [if_pos hm.1.1.2, Memory.canonical_of_wfFrom hm.2]
    have hcons : Memory.cons c.1 c.2 rest = c :: rest := by
      unfold Memory.cons; rw [if_neg hm.1.2]
    cases rest with
    | nil => exact hcons
    | cons d rest' =>
      have h2 := hm.2
      simp only [Memory.wfFrom, Bool.and_eq_true, decide_eq_true_eq] at h2
      simp only [Memory.writeByte]
      rw [if_pos (by omega)]
      exact hcons

theorem Memory.canonical_of_wf {m : Memory} (h : m.wf = true) : m.canonical = m := Memory.canonical_of_wfFrom h

/-- Any bytes at the addresses below `n`, as a canonical memory. -/
theorem Memory.exists_bytes (f : Nat → Byte) :
    ∀ n : Nat, n ≤ Memory.size → ∃ m : Memory, m.wf = true ∧ ∀ a, a < n → m.readByte a = f a
  | 0, _ => ⟨[], rfl, fun a h => absurd h (Nat.not_lt_zero a)⟩
  | n + 1, hn => by
    obtain ⟨m, hm, h⟩ := Memory.exists_bytes f n (by omega)
    refine ⟨m.writeByte n (f n), Memory.wf_writeByte _ (by omega) hm, fun a ha => ?_⟩
    by_cases e : a = n
    · rw [e]; exact Memory.readByte_writeByte_same _ hm
    · rw [Memory.readByte_writeByte_other _ (Ne.symm e)]; exact h a (by omega)

/-! ## Words -/

theorem kramByteAddr_lt (b : Bool) (a : KAddr) : kramByteAddr b a + 1 < Memory.size := by
  have := a.isLt
  unfold kramByteAddr Memory.size
  cases b <;> simp <;> omega

/-- Distinct words have distinct bytes. -/
theorem kramByteAddr_inj {b b' : Bool} {a a' : KAddr}
    (h : kramByteAddr b a / 2 = kramByteAddr b' a' / 2) : b = b' ∧ a = a' := by
  have h1 := a.isLt
  have h2 := a'.isLt
  unfold kramByteAddr at h
  cases b <;> cases b' <;> simp at h ⊢ <;> first | (exact BitVec.eq_of_toNat_eq (by omega)) | omega

theorem memWrite_wf (b : Bool) (a : KAddr) (v : Word) {m : Memory} (hm : m.wf = true) :
    (memWrite m b a v).wf = true := by
  have := kramByteAddr_lt b a
  exact Memory.wf_writeByte _ this (Memory.wf_writeByte _ (by omega) hm)

/-- MemWrite touches the two bytes of its word and no other. -/
theorem memWrite_readByte_other (m : Memory) (b : Bool) (a : KAddr) (v : Word) {x : Nat}
    (h0 : x ≠ kramByteAddr b a) (h1 : x ≠ kramByteAddr b a + 1) :
    (memWrite m b a v).readByte x = m.readByte x := by
  unfold memWrite
  rw [Memory.readByte_writeByte_other _ h1.symm, Memory.readByte_writeByte_other _ h0.symm]

theorem memWrite_readByte_low (b : Bool) (a : KAddr) (v : Word) {m : Memory} (hm : m.wf = true) :
    (memWrite m b a v).readByte (kramByteAddr b a) = v.setWidth 8 := by
  unfold memWrite
  rw [Memory.readByte_writeByte_other _ (by omega)]
  exact Memory.readByte_writeByte_same _ hm

theorem memWrite_readByte_high (b : Bool) (a : KAddr) (v : Word) {m : Memory} (hm : m.wf = true) :
    (memWrite m b a v).readByte (kramByteAddr b a + 1) = (v >>> 8).setWidth 8 := by
  have := kramByteAddr_lt b a
  unfold memWrite
  exact Memory.readByte_writeByte_same _ (Memory.wf_writeByte (a := kramByteAddr b a) _ (by omega) hm)

theorem word_of_bytes (v : Word) : ((v >>> 8).setWidth 8 : Byte) ++ (v.setWidth 8 : Byte) = v := by
  apply BitVec.eq_of_getLsbD_eq
  intro i hi
  rw [BitVec.getLsbD_append]
  by_cases h : i < 8
  · simp [h]
  · rw [if_neg h]
    simp only [BitVec.getLsbD_setWidth, BitVec.getLsbD_ushiftRight]
    rw [Nat.add_sub_cancel' (by omega : 8 ≤ i)]
    simp [show i - 8 < 8 by omega]

/-- MemRead after MemWrite at the same word. -/
theorem memRead_memWrite_same (b : Bool) (a : KAddr) (v : Word) {m : Memory} (hm : m.wf = true) :
    memRead (memWrite m b a v) b a = v := by
  unfold memRead
  rw [memWrite_readByte_low b a v hm, memWrite_readByte_high b a v hm, word_of_bytes]

/-- MemRead after MemWrite at another word. -/
theorem memRead_memWrite_other (m : Memory) {b b' : Bool} {a a' : KAddr} (v : Word) (h : ¬(b = b' ∧ a = a')) :
    memRead (memWrite m b a v) b' a' = memRead m b' a' := by
  have hne : kramByteAddr b a / 2 ≠ kramByteAddr b' a' / 2 := fun e => h (kramByteAddr_inj e)
  have e1 : kramByteAddr b a % 2 = 0 := by simp [kramByteAddr]
  have e2 : kramByteAddr b' a' % 2 = 0 := by simp [kramByteAddr]
  unfold memRead
  rw [memWrite_readByte_other _ _ _ _ (by omega) (by omega), memWrite_readByte_other _ _ _ _ (by omega) (by omega)]

/-! ## KRAM_INIT -/

/-- Every contents of KRAM is that of a canonical memory. -/
theorem exists_kram (f : Bool → KAddr → Word) : ∃ m : Memory, m.wf = true ∧ ∀ b a, memRead m b a = f b a := by
  let word := fun x : Nat => f (decide (262144 ≤ x / 2)) (BitVec.ofNat 18 (x / 2))
  obtain ⟨m, hm, h⟩ :=
    Memory.exists_bytes (fun x => if x % 2 = 0 then (word x).setWidth 8 else (word x >>> 8).setWidth 8) Memory.size
      (Nat.le_refl _)
  refine ⟨m, hm, fun b a => ?_⟩
  have hl := kramByteAddr_lt b a
  have ha := a.isLt
  have he : kramByteAddr b a % 2 = 0 := by simp [kramByteAddr]
  have hw : ∀ x, x / 2 = kramByteAddr b a / 2 → word x = f b a := fun x hx => by
    have hb : decide (262144 ≤ x / 2) = b := by rw [hx]; unfold kramByteAddr; cases b <;> simp <;> omega
    have hx' : BitVec.ofNat 18 (x / 2) = a := by
      apply BitVec.eq_of_toNat_eq
      rw [hx, BitVec.toNat_ofNat]
      unfold kramByteAddr
      cases b <;> simp <;> omega
    show f _ _ = f b a
    rw [hb, hx']
  unfold memRead
  rw [h _ hl, h _ (by omega), if_neg (by omega), if_pos he, hw _ (by omega), hw _ rfl, word_of_bytes]

/-- Every contents of KRAM is that of the power-on of some parameter record, the other parameters as they were
(70_reset_and_hazards.md R592). -/
theorem Params.exists_kramPowerOn (c : Params) (f : Bool → KAddr → Word) :
    ∃ m : Memory, ∀ b a, memRead ({ c with kramInit := m } : Params).kramPowerOn b a = f b a := by
  obtain ⟨m, hm, h⟩ := exists_kram f
  exact ⟨m, fun b a => by rw [Params.kramPowerOn, Memory.canonical_of_wf hm]; exact h b a⟩

end Sys2Proof
end

