-- ==== Sys2Proof/Laws/Palette.lean ====
section
/-! SUPPORT. What the palette, its cache and the microprogram table hold after a write. -/

namespace Sys2Proof.Machine

theorem palGet_palSet (p : Vector Word 512) (i j : BitVec 9) (v : Word) :
    palGet (palSet p i v) j = if j = i then v else palGet p j := by
  simp only [palGet, palSet, Vector.getElem_set]
  by_cases h : j = i
  · simp [h]
  · have : ¬i.toNat = j.toNat := fun e => h (BitVec.eq_of_toNat_eq e.symm)
    simp [h, this]

theorem pcacheGet_pcacheSet (p : Vector Yuv24 1024) (i : BitVec 9) (j : BitVec 10) (y : Yuv24) :
    pcacheGet (pcacheSet p i y) j = if j.extractLsb' 0 9 = i then y else pcacheGet p j := by
  simp only [pcacheGet, pcacheSet, Vector.getElem_set]
  have hj := j.isLt
  have hi := i.isLt
  have e : (j.extractLsb' 0 9).toNat = j.toNat % 512 := by simp [BitVec.extractLsb'_toNat]
  by_cases h : j.extractLsb' 0 9 = i
  · rw [if_pos h]
    have h2 : j.toNat % 512 = i.toNat := by rw [← h, e]
    split
    · rfl
    · split
      · rfl
      · omega
  · rw [if_neg h]
    have h2 : ¬j.toNat % 512 = i.toNat := fun x => h (BitVec.eq_of_toNat_eq (e.trans x))
    rw [if_neg (by omega), if_neg (by omega)]

theorem pcacheGet_pcacheOf_low (p : Vector Word 512) (i : BitVec 9) :
    pcacheGet (pcacheOf p) (i.setWidth 10) = expand (palGet p i) := by
  have h := i.isLt
  have e : i.toNat % 1024 = i.toNat := Nat.mod_eq_of_lt (by omega)
  simp only [pcacheGet, pcacheOf, palGet, BitVec.toNat_setWidth, e]
  simp [show i.toNat < 512 by omega]

theorem pcacheGet_pcacheOf_high (p : Vector Word 512) (i : BitVec 9) :
    pcacheGet (pcacheOf p) (i.setWidth 10 + 512#10) = expand (palGet p i) := by
  have h := i.isLt
  have e : (i.toNat % 1024 + 512) % 1024 = i.toNat + 512 := by omega
  simp [pcacheGet, pcacheOf, palGet, e]

theorem mprogGet_mprogSet (p : Vector Word 16) (i j : BitVec 4) (v : Word) :
    mprogGet (mprogSet p i v) j = if j = i then v else mprogGet p j := by
  simp only [mprogGet, mprogSet, Vector.getElem_set]
  by_cases h : j = i
  · simp [h]
  · have : ¬i.toNat = j.toNat := fun e => h (BitVec.eq_of_toNat_eq e.symm)
    simp [h, this]

/-- The zero palette is mirrored by the zero cache: EXPAND of 0 is 0. -/
theorem pcacheGet_pcacheZero (j : BitVec 10) : pcacheGet pcacheZero j = 0 := by
  simp [pcacheGet, pcacheZero]

end Sys2Proof.Machine
end

