-- ==== Sys2Proof/Laws/PerInstr.lean ====
section
/-! SUPPORT. Per-instruction families: a statement about an instruction as syntax and one lemma per constructor. -/

namespace Sys2Proof.Laws.KeyFitsRow

/-- The key of an encoded well-formed instruction fits the instruction's row of the opcode table
(30_encoding.md R141, R142). -/
def Statement (i : Instr) : Prop := i.wf = true → i.row.fits (encode i).1 = true

theorem wrCar (v : Word) : Statement (.wrCar v) := fun _ => (by decide : Row.fits ⟨0x130000, 0xF78000⟩ 0x1B0000#24 = true)
theorem wrPmode (v : Word) : Statement (.wrPmode v) := fun _ => (by decide : Row.fits ⟨0x138000, 0xF7C07F⟩ 0x1B8000#24 = true)
theorem wrPaladdr (v : Word) : Statement (.wrPaladdr v) := fun _ => (by decide : Row.fits ⟨0x138001, 0xF7C07F⟩ 0x1B8001#24 = true)
theorem wrPalwdata (v : Word) : Statement (.wrPalwdata v) := fun _ => (by decide : Row.fits ⟨0x138002, 0xF7C07F⟩ 0x1B8002#24 = true)
theorem wrPalrdata (v : Word) : Statement (.wrPalrdata v) := fun _ => (by decide : Row.fits ⟨0x138003, 0xF7C07F⟩ 0x1B8003#24 = true)
theorem wrPalofs0 (v : Word) : Statement (.wrPalofs0 v) := fun _ => (by decide : Row.fits ⟨0x138004, 0xF7C07F⟩ 0x1B8004#24 = true)
theorem wrPalofs1 (v : Word) : Statement (.wrPalofs1 v) := fun _ => (by decide : Row.fits ⟨0x138005, 0xF7C07F⟩ 0x1B8005#24 = true)
theorem wrPalofs2 (v : Word) : Statement (.wrPalofs2 v) := fun _ => (by decide : Row.fits ⟨0x138006, 0xF7C07F⟩ 0x1B8006#24 = true)
theorem wrPalofs3 (v : Word) : Statement (.wrPalofs3 v) := fun _ => (by decide : Row.fits ⟨0x138007, 0xF7C07F⟩ 0x1B8007#24 = true)
theorem wrPrio0 (v : Word) : Statement (.wrPrio0 v) := fun _ => (by decide : Row.fits ⟨0x138008, 0xF7C07F⟩ 0x1B8008#24 = true)
theorem wrPrio1 (v : Word) : Statement (.wrPrio1 v) := fun _ => (by decide : Row.fits ⟨0x138009, 0xF7C07F⟩ 0x1B8009#24 = true)
theorem wrKeyy (v : Word) : Statement (.wrKeyy v) := fun _ => (by decide : Row.fits ⟨0x13800A, 0xF7C07F⟩ 0x1B800A#24 = true)
theorem wrKeyu (v : Word) : Statement (.wrKeyu v) := fun _ => (by decide : Row.fits ⟨0x13800B, 0xF7C07F⟩ 0x1B800B#24 = true)
theorem wrKeyv (v : Word) : Statement (.wrKeyv v) := fun _ => (by decide : Row.fits ⟨0x13800C, 0xF7C07F⟩ 0x1B800C#24 = true)
theorem wrFixcol (v : Word) : Statement (.wrFixcol v) := fun _ => (by decide : Row.fits ⟨0x13800D, 0xF7C07F⟩ 0x1B800D#24 = true)
theorem wrCelctl (v : Word) : Statement (.wrCelctl v) := fun _ => (by decide : Row.fits ⟨0x13800E, 0xF7C07F⟩ 0x1B800E#24 = true)
theorem wrSprmask (v : Word) : Statement (.wrSprmask v) := fun _ => (by decide : Row.fits ⟨0x13800F, 0xF7C07F⟩ 0x1B800F#24 = true)
theorem wrCoef0 (v : Word) : Statement (.wrCoef0 v) := fun _ => (by decide : Row.fits ⟨0x138010, 0xF7C07F⟩ 0x1B8010#24 = true)
theorem wrCoef1 (v : Word) : Statement (.wrCoef1 v) := fun _ => (by decide : Row.fits ⟨0x138011, 0xF7C07F⟩ 0x1B8011#24 = true)
theorem wrCoef2 (v : Word) : Statement (.wrCoef2 v) := fun _ => (by decide : Row.fits ⟨0x138012, 0xF7C07F⟩ 0x1B8012#24 = true)
theorem wrCoef3 (v : Word) : Statement (.wrCoef3 v) := fun _ => (by decide : Row.fits ⟨0x138013, 0xF7C07F⟩ 0x1B8013#24 = true)
theorem wrCoef4 (v : Word) : Statement (.wrCoef4 v) := fun _ => (by decide : Row.fits ⟨0x138014, 0xF7C07F⟩ 0x1B8014#24 = true)
theorem wrCoef5 (v : Word) : Statement (.wrCoef5 v) := fun _ => (by decide : Row.fits ⟨0x138015, 0xF7C07F⟩ 0x1B8015#24 = true)
theorem wrCHigh (v : Word) : Statement (.wrCHigh v) := fun _ => (by decide : Row.fits ⟨0x13C000, 0xF7C000⟩ 0x1BC000#24 = true)
theorem wrCUnknown (sel : BitVec 7) (v : Word) : Statement (.wrCUnknown sel v) := fun _ => (by decide : ∀ sel : BitVec 7, Row.fits ⟨1245184, 16187392⟩ (mkKey 1 .half 0b011 true false false sel) = true) sel
theorem rdCUnknown (sel : BitVec 7) : Statement (.rdCUnknown sel) := fun _ => (by decide : ∀ sel : BitVec 7, Row.fits ⟨196608, 16187392⟩ (mkKey 0 .half 0b011 true false false sel) = true) sel
theorem wrKar (v : Word) : Statement (.wrKar v) := fun _ => (by decide : Row.fits ⟨0x160000, 0xF78000⟩ 0x1E0000#24 = true)
theorem wrSdataLo (v : Word) : Statement (.wrSdataLo v) := fun _ => (by decide : Row.fits ⟨0x168000, 0xF7C07F⟩ 0x1E8000#24 = true)
theorem wrSdataHi (v : Word) : Statement (.wrSdataHi v) := fun _ => (by decide : Row.fits ⟨0x16C000, 0xF7C07F⟩ 0x1EC000#24 = true)
theorem wrScmdLo (v : Word) : Statement (.wrScmdLo v) := fun _ => (by decide : Row.fits ⟨0x168001, 0xF7C07F⟩ 0x1E8001#24 = true)
theorem wrScmdHi (v : Word) : Statement (.wrScmdHi v) := fun _ => (by decide : Row.fits ⟨0x16C001, 0xF7C07F⟩ 0x1EC001#24 = true)
theorem wrSmodeLo (v : Word) : Statement (.wrSmodeLo v) := fun _ => (by decide : Row.fits ⟨0x168002, 0xF7C07F⟩ 0x1E8002#24 = true)
theorem wrSmodeHi (v : Word) : Statement (.wrSmodeHi v) := fun _ => (by decide : Row.fits ⟨0x16C002, 0xF7C07F⟩ 0x1EC002#24 = true)
theorem wrSphaseLo (v : Word) : Statement (.wrSphaseLo v) := fun _ => (by decide : Row.fits ⟨0x168003, 0xF7C07F⟩ 0x1E8003#24 = true)
theorem wrSphaseHi (v : Word) : Statement (.wrSphaseHi v) := fun _ => (by decide : Row.fits ⟨0x16C003, 0xF7C07F⟩ 0x1EC003#24 = true)
theorem wrSbusLo (v : Word) : Statement (.wrSbusLo v) := fun _ => (by decide : Row.fits ⟨0x168004, 0xF7C07F⟩ 0x1E8004#24 = true)
theorem wrSbusHi (v : Word) : Statement (.wrSbusHi v) := fun _ => (by decide : Row.fits ⟨0x16C004, 0xF7C07F⟩ 0x1EC004#24 = true)
theorem wrSstatLo (v : Word) : Statement (.wrSstatLo v) := fun _ => (by decide : Row.fits ⟨0x168005, 0xF7C07F⟩ 0x1E8005#24 = true)
theorem wrSstatHi (v : Word) : Statement (.wrSstatHi v) := fun _ => (by decide : Row.fits ⟨0x16C005, 0xF7C07F⟩ 0x1EC005#24 = true)
theorem wrSinLo (v : Word) : Statement (.wrSinLo v) := fun _ => (by decide : Row.fits ⟨0x168006, 0xF7C07F⟩ 0x1E8006#24 = true)
theorem wrSinHi (v : Word) : Statement (.wrSinHi v) := fun _ => (by decide : Row.fits ⟨0x16C006, 0xF7C07F⟩ 0x1EC006#24 = true)
theorem wrSrstLo (v : Word) : Statement (.wrSrstLo v) := fun _ => (by decide : Row.fits ⟨0x168007, 0xF7C07F⟩ 0x1E8007#24 = true)
theorem wrSrstHi (v : Word) : Statement (.wrSrstHi v) := fun _ => (by decide : Row.fits ⟨0x16C007, 0xF7C07F⟩ 0x1EC007#24 = true)
theorem wrSackLo (v : Word) : Statement (.wrSackLo v) := fun _ => (by decide : Row.fits ⟨0x168008, 0xF7C07F⟩ 0x1E8008#24 = true)
theorem wrSackHi (v : Word) : Statement (.wrSackHi v) := fun _ => (by decide : Row.fits ⟨0x16C008, 0xF7C07F⟩ 0x1EC008#24 = true)
theorem wrDmaaddrLo (v : Word) : Statement (.wrDmaaddrLo v) := fun _ => (by decide : Row.fits ⟨0x168009, 0xF7C07F⟩ 0x1E8009#24 = true)
theorem wrDmaaddrHi (v : Word) : Statement (.wrDmaaddrHi v) := fun _ => (by decide : Row.fits ⟨0x16C009, 0xF7C07F⟩ 0x1EC009#24 = true)
theorem wrDmasizeLo (v : Word) : Statement (.wrDmasizeLo v) := fun _ => (by decide : Row.fits ⟨0x16800A, 0xF7C07F⟩ 0x1E800A#24 = true)
theorem wrDmasizeHi (v : Word) : Statement (.wrDmasizeHi v) := fun _ => (by decide : Row.fits ⟨0x16C00A, 0xF7C07F⟩ 0x1EC00A#24 = true)
theorem wrDmactlLo (v : Word) : Statement (.wrDmactlLo v) := fun _ => (by decide : Row.fits ⟨0x16800B, 0xF7C07F⟩ 0x1E800B#24 = true)
theorem wrDmactlHi (v : Word) : Statement (.wrDmactlHi v) := fun _ => (by decide : Row.fits ⟨0x16C00B, 0xF7C07F⟩ 0x1EC00B#24 = true)
theorem wrKramraLo (v : Word) : Statement (.wrKramraLo v) := fun _ => (by decide : Row.fits ⟨0x16800C, 0xF7C07F⟩ 0x1E800C#24 = true)
theorem wrKramraHi (v : Word) : Statement (.wrKramraHi v) := fun _ => (by decide : Row.fits ⟨0x16C00C, 0xF7C07F⟩ 0x1EC00C#24 = true)
theorem wrKramwaLo (v : Word) : Statement (.wrKramwaLo v) := fun _ => (by decide : Row.fits ⟨0x16800D, 0xF7C07F⟩ 0x1E800D#24 = true)
theorem wrKramwaHi (v : Word) : Statement (.wrKramwaHi v) := fun _ => (by decide : Row.fits ⟨0x16C00D, 0xF7C07F⟩ 0x1EC00D#24 = true)
theorem wrKramdataLo (v : Word) : Statement (.wrKramdataLo v) := fun _ => (by decide : Row.fits ⟨0x16800E, 0xF7C07F⟩ 0x1E800E#24 = true)
theorem wrKramdataHi (v : Word) : Statement (.wrKramdataHi v) := fun _ => (by decide : Row.fits ⟨0x16C00E, 0xF7C07F⟩ 0x1EC00E#24 = true)
theorem wrPageLo (v : Word) : Statement (.wrPageLo v) := fun _ => (by decide : Row.fits ⟨0x16800F, 0xF7C07F⟩ 0x1E800F#24 = true)
theorem wrPageHi (v : Word) : Statement (.wrPageHi v) := fun _ => (by decide : Row.fits ⟨0x16C00F, 0xF7C07F⟩ 0x1EC00F#24 = true)
theorem wrMpaddrLo (v : Word) : Statement (.wrMpaddrLo v) := fun _ => (by decide : Row.fits ⟨0x168010, 0xF7C07F⟩ 0x1E8010#24 = true)
theorem wrMpaddrHi (v : Word) : Statement (.wrMpaddrHi v) := fun _ => (by decide : Row.fits ⟨0x16C010, 0xF7C07F⟩ 0x1EC010#24 = true)
theorem wrMpdataLo (v : Word) : Statement (.wrMpdataLo v) := fun _ => (by decide : Row.fits ⟨0x168011, 0xF7C07F⟩ 0x1E8011#24 = true)
theorem wrMpdataHi (v : Word) : Statement (.wrMpdataHi v) := fun _ => (by decide : Row.fits ⟨0x16C011, 0xF7C07F⟩ 0x1EC011#24 = true)
theorem wrMpctlLo (v : Word) : Statement (.wrMpctlLo v) := fun _ => (by decide : Row.fits ⟨0x168012, 0xF7C07F⟩ 0x1E8012#24 = true)
theorem wrMpctlHi (v : Word) : Statement (.wrMpctlHi v) := fun _ => (by decide : Row.fits ⟨0x16C012, 0xF7C07F⟩ 0x1EC012#24 = true)
theorem wrBgendlessLo (v : Word) : Statement (.wrBgendlessLo v) := fun _ => (by decide : Row.fits ⟨0x168013, 0xF7C07F⟩ 0x1E8013#24 = true)
theorem wrBgendlessHi (v : Word) : Statement (.wrBgendlessHi v) := fun _ => (by decide : Row.fits ⟨0x16C013, 0xF7C07F⟩ 0x1EC013#24 = true)
theorem wrBgmodeLo (v : Word) : Statement (.wrBgmodeLo v) := fun _ => (by decide : Row.fits ⟨0x168015, 0xF7C07F⟩ 0x1E8015#24 = true)
theorem wrBgmodeHi (v : Word) : Statement (.wrBgmodeHi v) := fun _ => (by decide : Row.fits ⟨0x16C015, 0xF7C07F⟩ 0x1EC015#24 = true)
theorem wrBat0Lo (v : Word) : Statement (.wrBat0Lo v) := fun _ => (by decide : Row.fits ⟨0x168020, 0xF7C07F⟩ 0x1E8020#24 = true)
theorem wrBat0Hi (v : Word) : Statement (.wrBat0Hi v) := fun _ => (by decide : Row.fits ⟨0x16C020, 0xF7C07F⟩ 0x1EC020#24 = true)
theorem wrBat1Lo (v : Word) : Statement (.wrBat1Lo v) := fun _ => (by decide : Row.fits ⟨0x168021, 0xF7C07F⟩ 0x1E8021#24 = true)
theorem wrBat1Hi (v : Word) : Statement (.wrBat1Hi v) := fun _ => (by decide : Row.fits ⟨0x16C021, 0xF7C07F⟩ 0x1EC021#24 = true)
theorem wrBat2Lo (v : Word) : Statement (.wrBat2Lo v) := fun _ => (by decide : Row.fits ⟨0x168022, 0xF7C07F⟩ 0x1E8022#24 = true)
theorem wrBat2Hi (v : Word) : Statement (.wrBat2Hi v) := fun _ => (by decide : Row.fits ⟨0x16C022, 0xF7C07F⟩ 0x1EC022#24 = true)
theorem wrBat3Lo (v : Word) : Statement (.wrBat3Lo v) := fun _ => (by decide : Row.fits ⟨0x168023, 0xF7C07F⟩ 0x1E8023#24 = true)
theorem wrBat3Hi (v : Word) : Statement (.wrBat3Hi v) := fun _ => (by decide : Row.fits ⟨0x16C023, 0xF7C07F⟩ 0x1EC023#24 = true)
theorem wrCg0Lo (v : Word) : Statement (.wrCg0Lo v) := fun _ => (by decide : Row.fits ⟨0x168024, 0xF7C07F⟩ 0x1E8024#24 = true)
theorem wrCg0Hi (v : Word) : Statement (.wrCg0Hi v) := fun _ => (by decide : Row.fits ⟨0x16C024, 0xF7C07F⟩ 0x1EC024#24 = true)
theorem wrCg1Lo (v : Word) : Statement (.wrCg1Lo v) := fun _ => (by decide : Row.fits ⟨0x168025, 0xF7C07F⟩ 0x1E8025#24 = true)
theorem wrCg1Hi (v : Word) : Statement (.wrCg1Hi v) := fun _ => (by decide : Row.fits ⟨0x16C025, 0xF7C07F⟩ 0x1EC025#24 = true)
theorem wrCg2Lo (v : Word) : Statement (.wrCg2Lo v) := fun _ => (by decide : Row.fits ⟨0x168026, 0xF7C07F⟩ 0x1E8026#24 = true)
theorem wrCg2Hi (v : Word) : Statement (.wrCg2Hi v) := fun _ => (by decide : Row.fits ⟨0x16C026, 0xF7C07F⟩ 0x1EC026#24 = true)
theorem wrCg3Lo (v : Word) : Statement (.wrCg3Lo v) := fun _ => (by decide : Row.fits ⟨0x168027, 0xF7C07F⟩ 0x1E8027#24 = true)
theorem wrCg3Hi (v : Word) : Statement (.wrCg3Hi v) := fun _ => (by decide : Row.fits ⟨0x16C027, 0xF7C07F⟩ 0x1EC027#24 = true)
theorem wrSubbat0Lo (v : Word) : Statement (.wrSubbat0Lo v) := fun _ => (by decide : Row.fits ⟨0x168028, 0xF7C07F⟩ 0x1E8028#24 = true)
theorem wrSubbat0Hi (v : Word) : Statement (.wrSubbat0Hi v) := fun _ => (by decide : Row.fits ⟨0x16C028, 0xF7C07F⟩ 0x1EC028#24 = true)
theorem wrSubbat1Lo (v : Word) : Statement (.wrSubbat1Lo v) := fun _ => (by decide : Row.fits ⟨0x168029, 0xF7C07F⟩ 0x1E8029#24 = true)
theorem wrSubbat1Hi (v : Word) : Statement (.wrSubbat1Hi v) := fun _ => (by decide : Row.fits ⟨0x16C029, 0xF7C07F⟩ 0x1EC029#24 = true)
theorem wrSubbat2Lo (v : Word) : Statement (.wrSubbat2Lo v) := fun _ => (by decide : Row.fits ⟨0x16802A, 0xF7C07F⟩ 0x1E802A#24 = true)
theorem wrSubbat2Hi (v : Word) : Statement (.wrSubbat2Hi v) := fun _ => (by decide : Row.fits ⟨0x16C02A, 0xF7C07F⟩ 0x1EC02A#24 = true)
theorem wrSubbat3Lo (v : Word) : Statement (.wrSubbat3Lo v) := fun _ => (by decide : Row.fits ⟨0x16802B, 0xF7C07F⟩ 0x1E802B#24 = true)
theorem wrSubbat3Hi (v : Word) : Statement (.wrSubbat3Hi v) := fun _ => (by decide : Row.fits ⟨0x16C02B, 0xF7C07F⟩ 0x1EC02B#24 = true)
theorem wrSubcg0Lo (v : Word) : Statement (.wrSubcg0Lo v) := fun _ => (by decide : Row.fits ⟨0x16802C, 0xF7C07F⟩ 0x1E802C#24 = true)
theorem wrSubcg0Hi (v : Word) : Statement (.wrSubcg0Hi v) := fun _ => (by decide : Row.fits ⟨0x16C02C, 0xF7C07F⟩ 0x1EC02C#24 = true)
theorem wrSubcg1Lo (v : Word) : Statement (.wrSubcg1Lo v) := fun _ => (by decide : Row.fits ⟨0x16802D, 0xF7C07F⟩ 0x1E802D#24 = true)
theorem wrSubcg1Hi (v : Word) : Statement (.wrSubcg1Hi v) := fun _ => (by decide : Row.fits ⟨0x16C02D, 0xF7C07F⟩ 0x1EC02D#24 = true)
theorem wrSubcg2Lo (v : Word) : Statement (.wrSubcg2Lo v) := fun _ => (by decide : Row.fits ⟨0x16802E, 0xF7C07F⟩ 0x1E802E#24 = true)
theorem wrSubcg2Hi (v : Word) : Statement (.wrSubcg2Hi v) := fun _ => (by decide : Row.fits ⟨0x16C02E, 0xF7C07F⟩ 0x1EC02E#24 = true)
theorem wrSubcg3Lo (v : Word) : Statement (.wrSubcg3Lo v) := fun _ => (by decide : Row.fits ⟨0x16802F, 0xF7C07F⟩ 0x1E802F#24 = true)
theorem wrSubcg3Hi (v : Word) : Statement (.wrSubcg3Hi v) := fun _ => (by decide : Row.fits ⟨0x16C02F, 0xF7C07F⟩ 0x1EC02F#24 = true)
theorem wrScrx0Lo (v : Word) : Statement (.wrScrx0Lo v) := fun _ => (by decide : Row.fits ⟨0x168030, 0xF7C07F⟩ 0x1E8030#24 = true)
theorem wrScrx0Hi (v : Word) : Statement (.wrScrx0Hi v) := fun _ => (by decide : Row.fits ⟨0x16C030, 0xF7C07F⟩ 0x1EC030#24 = true)
theorem wrScry0Lo (v : Word) : Statement (.wrScry0Lo v) := fun _ => (by decide : Row.fits ⟨0x168031, 0xF7C07F⟩ 0x1E8031#24 = true)
theorem wrScry0Hi (v : Word) : Statement (.wrScry0Hi v) := fun _ => (by decide : Row.fits ⟨0x16C031, 0xF7C07F⟩ 0x1EC031#24 = true)
theorem wrScrx1Lo (v : Word) : Statement (.wrScrx1Lo v) := fun _ => (by decide : Row.fits ⟨0x168032, 0xF7C07F⟩ 0x1E8032#24 = true)
theorem wrScrx1Hi (v : Word) : Statement (.wrScrx1Hi v) := fun _ => (by decide : Row.fits ⟨0x16C032, 0xF7C07F⟩ 0x1EC032#24 = true)
theorem wrScry1Lo (v : Word) : Statement (.wrScry1Lo v) := fun _ => (by decide : Row.fits ⟨0x168033, 0xF7C07F⟩ 0x1E8033#24 = true)
theorem wrScry1Hi (v : Word) : Statement (.wrScry1Hi v) := fun _ => (by decide : Row.fits ⟨0x16C033, 0xF7C07F⟩ 0x1EC033#24 = true)
theorem wrScrx2Lo (v : Word) : Statement (.wrScrx2Lo v) := fun _ => (by decide : Row.fits ⟨0x168034, 0xF7C07F⟩ 0x1E8034#24 = true)
theorem wrScrx2Hi (v : Word) : Statement (.wrScrx2Hi v) := fun _ => (by decide : Row.fits ⟨0x16C034, 0xF7C07F⟩ 0x1EC034#24 = true)
theorem wrScry2Lo (v : Word) : Statement (.wrScry2Lo v) := fun _ => (by decide : Row.fits ⟨0x168035, 0xF7C07F⟩ 0x1E8035#24 = true)
theorem wrScry2Hi (v : Word) : Statement (.wrScry2Hi v) := fun _ => (by decide : Row.fits ⟨0x16C035, 0xF7C07F⟩ 0x1EC035#24 = true)
theorem wrScrx3Lo (v : Word) : Statement (.wrScrx3Lo v) := fun _ => (by decide : Row.fits ⟨0x168036, 0xF7C07F⟩ 0x1E8036#24 = true)
theorem wrScrx3Hi (v : Word) : Statement (.wrScrx3Hi v) := fun _ => (by decide : Row.fits ⟨0x16C036, 0xF7C07F⟩ 0x1EC036#24 = true)
theorem wrScry3Lo (v : Word) : Statement (.wrScry3Lo v) := fun _ => (by decide : Row.fits ⟨0x168037, 0xF7C07F⟩ 0x1E8037#24 = true)
theorem wrScry3Hi (v : Word) : Statement (.wrScry3Hi v) := fun _ => (by decide : Row.fits ⟨0x16C037, 0xF7C07F⟩ 0x1EC037#24 = true)
theorem wrAffaLo (v : Word) : Statement (.wrAffaLo v) := fun _ => (by decide : Row.fits ⟨0x168038, 0xF7C07F⟩ 0x1E8038#24 = true)
theorem wrAffaHi (v : Word) : Statement (.wrAffaHi v) := fun _ => (by decide : Row.fits ⟨0x16C038, 0xF7C07F⟩ 0x1EC038#24 = true)
theorem wrAffbLo (v : Word) : Statement (.wrAffbLo v) := fun _ => (by decide : Row.fits ⟨0x168039, 0xF7C07F⟩ 0x1E8039#24 = true)
theorem wrAffbHi (v : Word) : Statement (.wrAffbHi v) := fun _ => (by decide : Row.fits ⟨0x16C039, 0xF7C07F⟩ 0x1EC039#24 = true)
theorem wrAffcLo (v : Word) : Statement (.wrAffcLo v) := fun _ => (by decide : Row.fits ⟨0x16803A, 0xF7C07F⟩ 0x1E803A#24 = true)
theorem wrAffcHi (v : Word) : Statement (.wrAffcHi v) := fun _ => (by decide : Row.fits ⟨0x16C03A, 0xF7C07F⟩ 0x1EC03A#24 = true)
theorem wrAffdLo (v : Word) : Statement (.wrAffdLo v) := fun _ => (by decide : Row.fits ⟨0x16803B, 0xF7C07F⟩ 0x1E803B#24 = true)
theorem wrAffdHi (v : Word) : Statement (.wrAffdHi v) := fun _ => (by decide : Row.fits ⟨0x16C03B, 0xF7C07F⟩ 0x1EC03B#24 = true)
theorem wrCtrxLo (v : Word) : Statement (.wrCtrxLo v) := fun _ => (by decide : Row.fits ⟨0x16803C, 0xF7C07F⟩ 0x1E803C#24 = true)
theorem wrCtrxHi (v : Word) : Statement (.wrCtrxHi v) := fun _ => (by decide : Row.fits ⟨0x16C03C, 0xF7C07F⟩ 0x1EC03C#24 = true)
theorem wrCtryLo (v : Word) : Statement (.wrCtryLo v) := fun _ => (by decide : Row.fits ⟨0x16803D, 0xF7C07F⟩ 0x1E803D#24 = true)
theorem wrCtryHi (v : Word) : Statement (.wrCtryHi v) := fun _ => (by decide : Row.fits ⟨0x16C03D, 0xF7C07F⟩ 0x1EC03D#24 = true)
theorem wrBgsize0Lo (v : Word) : Statement (.wrBgsize0Lo v) := fun _ => (by decide : Row.fits ⟨0x16803E, 0xF7C07F⟩ 0x1E803E#24 = true)
theorem wrBgsize0Hi (v : Word) : Statement (.wrBgsize0Hi v) := fun _ => (by decide : Row.fits ⟨0x16C03E, 0xF7C07F⟩ 0x1EC03E#24 = true)
theorem wrBgsize1Lo (v : Word) : Statement (.wrBgsize1Lo v) := fun _ => (by decide : Row.fits ⟨0x16803F, 0xF7C07F⟩ 0x1E803F#24 = true)
theorem wrBgsize1Hi (v : Word) : Statement (.wrBgsize1Hi v) := fun _ => (by decide : Row.fits ⟨0x16C03F, 0xF7C07F⟩ 0x1EC03F#24 = true)
theorem wrBgsize2Lo (v : Word) : Statement (.wrBgsize2Lo v) := fun _ => (by decide : Row.fits ⟨0x168040, 0xF7C07F⟩ 0x1E8040#24 = true)
theorem wrBgsize2Hi (v : Word) : Statement (.wrBgsize2Hi v) := fun _ => (by decide : Row.fits ⟨0x16C040, 0xF7C07F⟩ 0x1EC040#24 = true)
theorem wrBgsize3Lo (v : Word) : Statement (.wrBgsize3Lo v) := fun _ => (by decide : Row.fits ⟨0x168041, 0xF7C07F⟩ 0x1E8041#24 = true)
theorem wrBgsize3Hi (v : Word) : Statement (.wrBgsize3Hi v) := fun _ => (by decide : Row.fits ⟨0x16C041, 0xF7C07F⟩ 0x1EC041#24 = true)
theorem wrOvlctlLo (v : Word) : Statement (.wrOvlctlLo v) := fun _ => (by decide : Row.fits ⟨0x168044, 0xF7C07F⟩ 0x1E8044#24 = true)
theorem wrOvlctlHi (v : Word) : Statement (.wrOvlctlHi v) := fun _ => (by decide : Row.fits ⟨0x16C044, 0xF7C07F⟩ 0x1EC044#24 = true)
theorem wrOvladdrLo (v : Word) : Statement (.wrOvladdrLo v) := fun _ => (by decide : Row.fits ⟨0x168045, 0xF7C07F⟩ 0x1E8045#24 = true)
theorem wrOvladdrHi (v : Word) : Statement (.wrOvladdrHi v) := fun _ => (by decide : Row.fits ⟨0x16C045, 0xF7C07F⟩ 0x1EC045#24 = true)
theorem wrOvlblocksLo (v : Word) : Statement (.wrOvlblocksLo v) := fun _ => (by decide : Row.fits ⟨0x168046, 0xF7C07F⟩ 0x1E8046#24 = true)
theorem wrOvlblocksHi (v : Word) : Statement (.wrOvlblocksHi v) := fun _ => (by decide : Row.fits ⟨0x16C046, 0xF7C07F⟩ 0x1EC046#24 = true)
theorem wrRirqlineLo (v : Word) : Statement (.wrRirqlineLo v) := fun _ => (by decide : Row.fits ⟨0x168047, 0xF7C07F⟩ 0x1E8047#24 = true)
theorem wrRirqlineHi (v : Word) : Statement (.wrRirqlineHi v) := fun _ => (by decide : Row.fits ⟨0x16C047, 0xF7C07F⟩ 0x1EC047#24 = true)
theorem wrAdctlLo (v : Word) : Statement (.wrAdctlLo v) := fun _ => (by decide : Row.fits ⟨0x168050, 0xF7C07F⟩ 0x1E8050#24 = true)
theorem wrAdctlHi (v : Word) : Statement (.wrAdctlHi v) := fun _ => (by decide : Row.fits ⟨0x16C050, 0xF7C07F⟩ 0x1EC050#24 = true)
theorem wrPlay0Lo (v : Word) : Statement (.wrPlay0Lo v) := fun _ => (by decide : Row.fits ⟨0x168051, 0xF7C07F⟩ 0x1E8051#24 = true)
theorem wrPlay0Hi (v : Word) : Statement (.wrPlay0Hi v) := fun _ => (by decide : Row.fits ⟨0x16C051, 0xF7C07F⟩ 0x1EC051#24 = true)
theorem wrEnd0Lo (v : Word) : Statement (.wrEnd0Lo v) := fun _ => (by decide : Row.fits ⟨0x168052, 0xF7C07F⟩ 0x1E8052#24 = true)
theorem wrEnd0Hi (v : Word) : Statement (.wrEnd0Hi v) := fun _ => (by decide : Row.fits ⟨0x16C052, 0xF7C07F⟩ 0x1EC052#24 = true)
theorem wrInter0Lo (v : Word) : Statement (.wrInter0Lo v) := fun _ => (by decide : Row.fits ⟨0x168053, 0xF7C07F⟩ 0x1E8053#24 = true)
theorem wrInter0Hi (v : Word) : Statement (.wrInter0Hi v) := fun _ => (by decide : Row.fits ⟨0x16C053, 0xF7C07F⟩ 0x1EC053#24 = true)
theorem wrAdstatLo (v : Word) : Statement (.wrAdstatLo v) := fun _ => (by decide : Row.fits ⟨0x168054, 0xF7C07F⟩ 0x1E8054#24 = true)
theorem wrAdstatHi (v : Word) : Statement (.wrAdstatHi v) := fun _ => (by decide : Row.fits ⟨0x16C054, 0xF7C07F⟩ 0x1EC054#24 = true)
theorem wrPlay1Lo (v : Word) : Statement (.wrPlay1Lo v) := fun _ => (by decide : Row.fits ⟨0x168055, 0xF7C07F⟩ 0x1E8055#24 = true)
theorem wrPlay1Hi (v : Word) : Statement (.wrPlay1Hi v) := fun _ => (by decide : Row.fits ⟨0x16C055, 0xF7C07F⟩ 0x1EC055#24 = true)
theorem wrEnd1Lo (v : Word) : Statement (.wrEnd1Lo v) := fun _ => (by decide : Row.fits ⟨0x168056, 0xF7C07F⟩ 0x1E8056#24 = true)
theorem wrEnd1Hi (v : Word) : Statement (.wrEnd1Hi v) := fun _ => (by decide : Row.fits ⟨0x16C056, 0xF7C07F⟩ 0x1EC056#24 = true)
theorem wrInter1Lo (v : Word) : Statement (.wrInter1Lo v) := fun _ => (by decide : Row.fits ⟨0x168057, 0xF7C07F⟩ 0x1E8057#24 = true)
theorem wrInter1Hi (v : Word) : Statement (.wrInter1Hi v) := fun _ => (by decide : Row.fits ⟨0x16C057, 0xF7C07F⟩ 0x1EC057#24 = true)
theorem wrKUnknown (high : Bool) (sel : BitVec 7) (v : Word) : Statement (.wrKUnknown high sel v) := fun _ => (by decide : ∀ (high : Bool) (sel : BitVec 7), Row.fits ⟨1441792, 16187392⟩ (mkKey 1 .half 0b110 true high false sel) = true) high sel
theorem rdKUnknown (high : Bool) (sel : BitVec 7) : Statement (.rdKUnknown high sel) := fun _ => (by decide : ∀ (high : Bool) (sel : BitVec 7), Row.fits ⟨393216, 16187392⟩ (mkKey 0 .half 0b110 true high false sel) = true) high sel
theorem wrNospace (space : BitVec 3) (v : Word) : Statement (.wrNospace space v) := fun _ => (by decide : ∀ space : BitVec 3, Row.fits ⟨1048576, 15728640⟩ (mkKey 1 .half space false false false 0) = true) space
theorem rdNospace (space : BitVec 3) : Statement (.rdNospace space) := fun _ => (by decide : ∀ space : BitVec 3, Row.fits ⟨0, 15728640⟩ (mkKey 0 .half space false false false 0) = true) space
theorem run (n : Nat) : Statement (.run n) := fun _ => (by decide : Row.fits ⟨0x200000, 0xF00000⟩ 0x200000#24 = true)
theorem reset (t : Nat) : Statement (.reset t) := fun _ => (by decide : Row.fits ⟨0x300000, 0xF00000⟩ 0x300000#24 = true)
theorem save : Statement .save := fun _ => (by decide : Row.fits ⟨0x400000, 0xF00000⟩ 0x400000#24 = true)
theorem restore (x : Snapshot) : Statement (.restore x) := fun _ => (by decide : Row.fits ⟨0x500000, 0xF00000⟩ 0x500000#24 = true)
theorem playfetch (c : Channel) : Statement (.playfetch c) := fun _ => (by decide : Row.fits ⟨0x600000, 0xF00000⟩ 0x600000#24 = true)
theorem rdCstat : Statement .rdCstat := fun _ => (by decide : Row.fits ⟨0x030000, 0xF78000⟩ 0x0B0000#24 = true)
theorem rdPmode : Statement .rdPmode := fun _ => (by decide : Row.fits ⟨0x038000, 0xF7C07F⟩ 0x0B8000#24 = true)
theorem rdPaladdr : Statement .rdPaladdr := fun _ => (by decide : Row.fits ⟨0x038001, 0xF7C07F⟩ 0x0B8001#24 = true)
theorem rdPalwdata : Statement .rdPalwdata := fun _ => (by decide : Row.fits ⟨0x038002, 0xF7C07F⟩ 0x0B8002#24 = true)
theorem rdPalrdata : Statement .rdPalrdata := fun _ => (by decide : Row.fits ⟨0x038003, 0xF7C07F⟩ 0x0B8003#24 = true)
theorem rdPalofs0 : Statement .rdPalofs0 := fun _ => (by decide : Row.fits ⟨0x038004, 0xF7C07F⟩ 0x0B8004#24 = true)
theorem rdPalofs1 : Statement .rdPalofs1 := fun _ => (by decide : Row.fits ⟨0x038005, 0xF7C07F⟩ 0x0B8005#24 = true)
theorem rdPalofs2 : Statement .rdPalofs2 := fun _ => (by decide : Row.fits ⟨0x038006, 0xF7C07F⟩ 0x0B8006#24 = true)
theorem rdPalofs3 : Statement .rdPalofs3 := fun _ => (by decide : Row.fits ⟨0x038007, 0xF7C07F⟩ 0x0B8007#24 = true)
theorem rdPrio0 : Statement .rdPrio0 := fun _ => (by decide : Row.fits ⟨0x038008, 0xF7C07F⟩ 0x0B8008#24 = true)
theorem rdPrio1 : Statement .rdPrio1 := fun _ => (by decide : Row.fits ⟨0x038009, 0xF7C07F⟩ 0x0B8009#24 = true)
theorem rdKeyy : Statement .rdKeyy := fun _ => (by decide : Row.fits ⟨0x03800A, 0xF7C07F⟩ 0x0B800A#24 = true)
theorem rdKeyu : Statement .rdKeyu := fun _ => (by decide : Row.fits ⟨0x03800B, 0xF7C07F⟩ 0x0B800B#24 = true)
theorem rdKeyv : Statement .rdKeyv := fun _ => (by decide : Row.fits ⟨0x03800C, 0xF7C07F⟩ 0x0B800C#24 = true)
theorem rdFixcol : Statement .rdFixcol := fun _ => (by decide : Row.fits ⟨0x03800D, 0xF7C07F⟩ 0x0B800D#24 = true)
theorem rdCelctl : Statement .rdCelctl := fun _ => (by decide : Row.fits ⟨0x03800E, 0xF7C07F⟩ 0x0B800E#24 = true)
theorem rdSprmask : Statement .rdSprmask := fun _ => (by decide : Row.fits ⟨0x03800F, 0xF7C07F⟩ 0x0B800F#24 = true)
theorem rdCoef0 : Statement .rdCoef0 := fun _ => (by decide : Row.fits ⟨0x038010, 0xF7C07F⟩ 0x0B8010#24 = true)
theorem rdCoef1 : Statement .rdCoef1 := fun _ => (by decide : Row.fits ⟨0x038011, 0xF7C07F⟩ 0x0B8011#24 = true)
theorem rdCoef2 : Statement .rdCoef2 := fun _ => (by decide : Row.fits ⟨0x038012, 0xF7C07F⟩ 0x0B8012#24 = true)
theorem rdCoef3 : Statement .rdCoef3 := fun _ => (by decide : Row.fits ⟨0x038013, 0xF7C07F⟩ 0x0B8013#24 = true)
theorem rdCoef4 : Statement .rdCoef4 := fun _ => (by decide : Row.fits ⟨0x038014, 0xF7C07F⟩ 0x0B8014#24 = true)
theorem rdCoef5 : Statement .rdCoef5 := fun _ => (by decide : Row.fits ⟨0x038015, 0xF7C07F⟩ 0x0B8015#24 = true)
theorem rdCHigh : Statement .rdCHigh := fun _ => (by decide : Row.fits ⟨0x03C000, 0xF7C000⟩ 0x0BC000#24 = true)
theorem rdKstat : Statement .rdKstat := fun _ => (by decide : Row.fits ⟨0x060000, 0xF78000⟩ 0x0E0000#24 = true)
theorem rdSdataLo : Statement .rdSdataLo := fun _ => (by decide : Row.fits ⟨0x068000, 0xF7C07F⟩ 0x0E8000#24 = true)
theorem rdSdataHi : Statement .rdSdataHi := fun _ => (by decide : Row.fits ⟨0x06C000, 0xF7C07F⟩ 0x0EC000#24 = true)
theorem rdScmdLo : Statement .rdScmdLo := fun _ => (by decide : Row.fits ⟨0x068001, 0xF7C07F⟩ 0x0E8001#24 = true)
theorem rdScmdHi : Statement .rdScmdHi := fun _ => (by decide : Row.fits ⟨0x06C001, 0xF7C07F⟩ 0x0EC001#24 = true)
theorem rdSmodeLo : Statement .rdSmodeLo := fun _ => (by decide : Row.fits ⟨0x068002, 0xF7C07F⟩ 0x0E8002#24 = true)
theorem rdSmodeHi : Statement .rdSmodeHi := fun _ => (by decide : Row.fits ⟨0x06C002, 0xF7C07F⟩ 0x0EC002#24 = true)
theorem rdSphaseLo : Statement .rdSphaseLo := fun _ => (by decide : Row.fits ⟨0x068003, 0xF7C07F⟩ 0x0E8003#24 = true)
theorem rdSphaseHi : Statement .rdSphaseHi := fun _ => (by decide : Row.fits ⟨0x06C003, 0xF7C07F⟩ 0x0EC003#24 = true)
theorem rdSbusLo : Statement .rdSbusLo := fun _ => (by decide : Row.fits ⟨0x068004, 0xF7C07F⟩ 0x0E8004#24 = true)
theorem rdSbusHi : Statement .rdSbusHi := fun _ => (by decide : Row.fits ⟨0x06C004, 0xF7C07F⟩ 0x0EC004#24 = true)
theorem rdSstatLo : Statement .rdSstatLo := fun _ => (by decide : Row.fits ⟨0x068005, 0xF7C07F⟩ 0x0E8005#24 = true)
theorem rdSstatHi : Statement .rdSstatHi := fun _ => (by decide : Row.fits ⟨0x06C005, 0xF7C07F⟩ 0x0EC005#24 = true)
theorem rdSinLo : Statement .rdSinLo := fun _ => (by decide : Row.fits ⟨0x068006, 0xF7C07F⟩ 0x0E8006#24 = true)
theorem rdSinHi : Statement .rdSinHi := fun _ => (by decide : Row.fits ⟨0x06C006, 0xF7C07F⟩ 0x0EC006#24 = true)
theorem rdSrstLo : Statement .rdSrstLo := fun _ => (by decide : Row.fits ⟨0x068007, 0xF7C07F⟩ 0x0E8007#24 = true)
theorem rdSrstHi : Statement .rdSrstHi := fun _ => (by decide : Row.fits ⟨0x06C007, 0xF7C07F⟩ 0x0EC007#24 = true)
theorem rdSackLo : Statement .rdSackLo := fun _ => (by decide : Row.fits ⟨0x068008, 0xF7C07F⟩ 0x0E8008#24 = true)
theorem rdSackHi : Statement .rdSackHi := fun _ => (by decide : Row.fits ⟨0x06C008, 0xF7C07F⟩ 0x0EC008#24 = true)
theorem rdDmaaddrLo : Statement .rdDmaaddrLo := fun _ => (by decide : Row.fits ⟨0x068009, 0xF7C07F⟩ 0x0E8009#24 = true)
theorem rdDmaaddrHi : Statement .rdDmaaddrHi := fun _ => (by decide : Row.fits ⟨0x06C009, 0xF7C07F⟩ 0x0EC009#24 = true)
theorem rdDmasizeLo : Statement .rdDmasizeLo := fun _ => (by decide : Row.fits ⟨0x06800A, 0xF7C07F⟩ 0x0E800A#24 = true)
theorem rdDmasizeHi : Statement .rdDmasizeHi := fun _ => (by decide : Row.fits ⟨0x06C00A, 0xF7C07F⟩ 0x0EC00A#24 = true)
theorem rdDmactlLo : Statement .rdDmactlLo := fun _ => (by decide : Row.fits ⟨0x06800B, 0xF7C07F⟩ 0x0E800B#24 = true)
theorem rdDmactlHi : Statement .rdDmactlHi := fun _ => (by decide : Row.fits ⟨0x06C00B, 0xF7C07F⟩ 0x0EC00B#24 = true)
theorem rdKramraLo : Statement .rdKramraLo := fun _ => (by decide : Row.fits ⟨0x06800C, 0xF7C07F⟩ 0x0E800C#24 = true)
theorem rdKramraHi : Statement .rdKramraHi := fun _ => (by decide : Row.fits ⟨0x06C00C, 0xF7C07F⟩ 0x0EC00C#24 = true)
theorem rdKramwaLo : Statement .rdKramwaLo := fun _ => (by decide : Row.fits ⟨0x06800D, 0xF7C07F⟩ 0x0E800D#24 = true)
theorem rdKramwaHi : Statement .rdKramwaHi := fun _ => (by decide : Row.fits ⟨0x06C00D, 0xF7C07F⟩ 0x0EC00D#24 = true)
theorem rdKramdataLo : Statement .rdKramdataLo := fun _ => (by decide : Row.fits ⟨0x06800E, 0xF7C07F⟩ 0x0E800E#24 = true)
theorem rdKramdataHi : Statement .rdKramdataHi := fun _ => (by decide : Row.fits ⟨0x06C00E, 0xF7C07F⟩ 0x0EC00E#24 = true)
theorem rdPageLo : Statement .rdPageLo := fun _ => (by decide : Row.fits ⟨0x06800F, 0xF7C07F⟩ 0x0E800F#24 = true)
theorem rdPageHi : Statement .rdPageHi := fun _ => (by decide : Row.fits ⟨0x06C00F, 0xF7C07F⟩ 0x0EC00F#24 = true)
theorem rdMpaddrLo : Statement .rdMpaddrLo := fun _ => (by decide : Row.fits ⟨0x068010, 0xF7C07F⟩ 0x0E8010#24 = true)
theorem rdMpaddrHi : Statement .rdMpaddrHi := fun _ => (by decide : Row.fits ⟨0x06C010, 0xF7C07F⟩ 0x0EC010#24 = true)
theorem rdMpdataLo : Statement .rdMpdataLo := fun _ => (by decide : Row.fits ⟨0x068011, 0xF7C07F⟩ 0x0E8011#24 = true)
theorem rdMpdataHi : Statement .rdMpdataHi := fun _ => (by decide : Row.fits ⟨0x06C011, 0xF7C07F⟩ 0x0EC011#24 = true)
theorem rdMpctlLo : Statement .rdMpctlLo := fun _ => (by decide : Row.fits ⟨0x068012, 0xF7C07F⟩ 0x0E8012#24 = true)
theorem rdMpctlHi : Statement .rdMpctlHi := fun _ => (by decide : Row.fits ⟨0x06C012, 0xF7C07F⟩ 0x0EC012#24 = true)
theorem rdBgendlessLo : Statement .rdBgendlessLo := fun _ => (by decide : Row.fits ⟨0x068013, 0xF7C07F⟩ 0x0E8013#24 = true)
theorem rdBgendlessHi : Statement .rdBgendlessHi := fun _ => (by decide : Row.fits ⟨0x06C013, 0xF7C07F⟩ 0x0EC013#24 = true)
theorem rdBgmodeLo : Statement .rdBgmodeLo := fun _ => (by decide : Row.fits ⟨0x068015, 0xF7C07F⟩ 0x0E8015#24 = true)
theorem rdBgmodeHi : Statement .rdBgmodeHi := fun _ => (by decide : Row.fits ⟨0x06C015, 0xF7C07F⟩ 0x0EC015#24 = true)
theorem rdBat0Lo : Statement .rdBat0Lo := fun _ => (by decide : Row.fits ⟨0x068020, 0xF7C07F⟩ 0x0E8020#24 = true)
theorem rdBat0Hi : Statement .rdBat0Hi := fun _ => (by decide : Row.fits ⟨0x06C020, 0xF7C07F⟩ 0x0EC020#24 = true)
theorem rdBat1Lo : Statement .rdBat1Lo := fun _ => (by decide : Row.fits ⟨0x068021, 0xF7C07F⟩ 0x0E8021#24 = true)
theorem rdBat1Hi : Statement .rdBat1Hi := fun _ => (by decide : Row.fits ⟨0x06C021, 0xF7C07F⟩ 0x0EC021#24 = true)
theorem rdBat2Lo : Statement .rdBat2Lo := fun _ => (by decide : Row.fits ⟨0x068022, 0xF7C07F⟩ 0x0E8022#24 = true)
theorem rdBat2Hi : Statement .rdBat2Hi := fun _ => (by decide : Row.fits ⟨0x06C022, 0xF7C07F⟩ 0x0EC022#24 = true)
theorem rdBat3Lo : Statement .rdBat3Lo := fun _ => (by decide : Row.fits ⟨0x068023, 0xF7C07F⟩ 0x0E8023#24 = true)
theorem rdBat3Hi : Statement .rdBat3Hi := fun _ => (by decide : Row.fits ⟨0x06C023, 0xF7C07F⟩ 0x0EC023#24 = true)
theorem rdCg0Lo : Statement .rdCg0Lo := fun _ => (by decide : Row.fits ⟨0x068024, 0xF7C07F⟩ 0x0E8024#24 = true)
theorem rdCg0Hi : Statement .rdCg0Hi := fun _ => (by decide : Row.fits ⟨0x06C024, 0xF7C07F⟩ 0x0EC024#24 = true)
theorem rdCg1Lo : Statement .rdCg1Lo := fun _ => (by decide : Row.fits ⟨0x068025, 0xF7C07F⟩ 0x0E8025#24 = true)
theorem rdCg1Hi : Statement .rdCg1Hi := fun _ => (by decide : Row.fits ⟨0x06C025, 0xF7C07F⟩ 0x0EC025#24 = true)
theorem rdCg2Lo : Statement .rdCg2Lo := fun _ => (by decide : Row.fits ⟨0x068026, 0xF7C07F⟩ 0x0E8026#24 = true)
theorem rdCg2Hi : Statement .rdCg2Hi := fun _ => (by decide : Row.fits ⟨0x06C026, 0xF7C07F⟩ 0x0EC026#24 = true)
theorem rdCg3Lo : Statement .rdCg3Lo := fun _ => (by decide : Row.fits ⟨0x068027, 0xF7C07F⟩ 0x0E8027#24 = true)
theorem rdCg3Hi : Statement .rdCg3Hi := fun _ => (by decide : Row.fits ⟨0x06C027, 0xF7C07F⟩ 0x0EC027#24 = true)
theorem rdSubbat0Lo : Statement .rdSubbat0Lo := fun _ => (by decide : Row.fits ⟨0x068028, 0xF7C07F⟩ 0x0E8028#24 = true)
theorem rdSubbat0Hi : Statement .rdSubbat0Hi := fun _ => (by decide : Row.fits ⟨0x06C028, 0xF7C07F⟩ 0x0EC028#24 = true)
theorem rdSubbat1Lo : Statement .rdSubbat1Lo := fun _ => (by decide : Row.fits ⟨0x068029, 0xF7C07F⟩ 0x0E8029#24 = true)
theorem rdSubbat1Hi : Statement .rdSubbat1Hi := fun _ => (by decide : Row.fits ⟨0x06C029, 0xF7C07F⟩ 0x0EC029#24 = true)
theorem rdSubbat2Lo : Statement .rdSubbat2Lo := fun _ => (by decide : Row.fits ⟨0x06802A, 0xF7C07F⟩ 0x0E802A#24 = true)
theorem rdSubbat2Hi : Statement .rdSubbat2Hi := fun _ => (by decide : Row.fits ⟨0x06C02A, 0xF7C07F⟩ 0x0EC02A#24 = true)
theorem rdSubbat3Lo : Statement .rdSubbat3Lo := fun _ => (by decide : Row.fits ⟨0x06802B, 0xF7C07F⟩ 0x0E802B#24 = true)
theorem rdSubbat3Hi : Statement .rdSubbat3Hi := fun _ => (by decide : Row.fits ⟨0x06C02B, 0xF7C07F⟩ 0x0EC02B#24 = true)
theorem rdSubcg0Lo : Statement .rdSubcg0Lo := fun _ => (by decide : Row.fits ⟨0x06802C, 0xF7C07F⟩ 0x0E802C#24 = true)
theorem rdSubcg0Hi : Statement .rdSubcg0Hi := fun _ => (by decide : Row.fits ⟨0x06C02C, 0xF7C07F⟩ 0x0EC02C#24 = true)
theorem rdSubcg1Lo : Statement .rdSubcg1Lo := fun _ => (by decide : Row.fits ⟨0x06802D, 0xF7C07F⟩ 0x0E802D#24 = true)
theorem rdSubcg1Hi : Statement .rdSubcg1Hi := fun _ => (by decide : Row.fits ⟨0x06C02D, 0xF7C07F⟩ 0x0EC02D#24 = true)
theorem rdSubcg2Lo : Statement .rdSubcg2Lo := fun _ => (by decide : Row.fits ⟨0x06802E, 0xF7C07F⟩ 0x0E802E#24 = true)
theorem rdSubcg2Hi : Statement .rdSubcg2Hi := fun _ => (by decide : Row.fits ⟨0x06C02E, 0xF7C07F⟩ 0x0EC02E#24 = true)
theorem rdSubcg3Lo : Statement .rdSubcg3Lo := fun _ => (by decide : Row.fits ⟨0x06802F, 0xF7C07F⟩ 0x0E802F#24 = true)
theorem rdSubcg3Hi : Statement .rdSubcg3Hi := fun _ => (by decide : Row.fits ⟨0x06C02F, 0xF7C07F⟩ 0x0EC02F#24 = true)
theorem rdScrx0Lo : Statement .rdScrx0Lo := fun _ => (by decide : Row.fits ⟨0x068030, 0xF7C07F⟩ 0x0E8030#24 = true)
theorem rdScrx0Hi : Statement .rdScrx0Hi := fun _ => (by decide : Row.fits ⟨0x06C030, 0xF7C07F⟩ 0x0EC030#24 = true)
theorem rdScry0Lo : Statement .rdScry0Lo := fun _ => (by decide : Row.fits ⟨0x068031, 0xF7C07F⟩ 0x0E8031#24 = true)
theorem rdScry0Hi : Statement .rdScry0Hi := fun _ => (by decide : Row.fits ⟨0x06C031, 0xF7C07F⟩ 0x0EC031#24 = true)
theorem rdScrx1Lo : Statement .rdScrx1Lo := fun _ => (by decide : Row.fits ⟨0x068032, 0xF7C07F⟩ 0x0E8032#24 = true)
theorem rdScrx1Hi : Statement .rdScrx1Hi := fun _ => (by decide : Row.fits ⟨0x06C032, 0xF7C07F⟩ 0x0EC032#24 = true)
theorem rdScry1Lo : Statement .rdScry1Lo := fun _ => (by decide : Row.fits ⟨0x068033, 0xF7C07F⟩ 0x0E8033#24 = true)
theorem rdScry1Hi : Statement .rdScry1Hi := fun _ => (by decide : Row.fits ⟨0x06C033, 0xF7C07F⟩ 0x0EC033#24 = true)
theorem rdScrx2Lo : Statement .rdScrx2Lo := fun _ => (by decide : Row.fits ⟨0x068034, 0xF7C07F⟩ 0x0E8034#24 = true)
theorem rdScrx2Hi : Statement .rdScrx2Hi := fun _ => (by decide : Row.fits ⟨0x06C034, 0xF7C07F⟩ 0x0EC034#24 = true)
theorem rdScry2Lo : Statement .rdScry2Lo := fun _ => (by decide : Row.fits ⟨0x068035, 0xF7C07F⟩ 0x0E8035#24 = true)
theorem rdScry2Hi : Statement .rdScry2Hi := fun _ => (by decide : Row.fits ⟨0x06C035, 0xF7C07F⟩ 0x0EC035#24 = true)
theorem rdScrx3Lo : Statement .rdScrx3Lo := fun _ => (by decide : Row.fits ⟨0x068036, 0xF7C07F⟩ 0x0E8036#24 = true)
theorem rdScrx3Hi : Statement .rdScrx3Hi := fun _ => (by decide : Row.fits ⟨0x06C036, 0xF7C07F⟩ 0x0EC036#24 = true)
theorem rdScry3Lo : Statement .rdScry3Lo := fun _ => (by decide : Row.fits ⟨0x068037, 0xF7C07F⟩ 0x0E8037#24 = true)
theorem rdScry3Hi : Statement .rdScry3Hi := fun _ => (by decide : Row.fits ⟨0x06C037, 0xF7C07F⟩ 0x0EC037#24 = true)
theorem rdAffaLo : Statement .rdAffaLo := fun _ => (by decide : Row.fits ⟨0x068038, 0xF7C07F⟩ 0x0E8038#24 = true)
theorem rdAffaHi : Statement .rdAffaHi := fun _ => (by decide : Row.fits ⟨0x06C038, 0xF7C07F⟩ 0x0EC038#24 = true)
theorem rdAffbLo : Statement .rdAffbLo := fun _ => (by decide : Row.fits ⟨0x068039, 0xF7C07F⟩ 0x0E8039#24 = true)
theorem rdAffbHi : Statement .rdAffbHi := fun _ => (by decide : Row.fits ⟨0x06C039, 0xF7C07F⟩ 0x0EC039#24 = true)
theorem rdAffcLo : Statement .rdAffcLo := fun _ => (by decide : Row.fits ⟨0x06803A, 0xF7C07F⟩ 0x0E803A#24 = true)
theorem rdAffcHi : Statement .rdAffcHi := fun _ => (by decide : Row.fits ⟨0x06C03A, 0xF7C07F⟩ 0x0EC03A#24 = true)
theorem rdAffdLo : Statement .rdAffdLo := fun _ => (by decide : Row.fits ⟨0x06803B, 0xF7C07F⟩ 0x0E803B#24 = true)
theorem rdAffdHi : Statement .rdAffdHi := fun _ => (by decide : Row.fits ⟨0x06C03B, 0xF7C07F⟩ 0x0EC03B#24 = true)
theorem rdCtrxLo : Statement .rdCtrxLo := fun _ => (by decide : Row.fits ⟨0x06803C, 0xF7C07F⟩ 0x0E803C#24 = true)
theorem rdCtrxHi : Statement .rdCtrxHi := fun _ => (by decide : Row.fits ⟨0x06C03C, 0xF7C07F⟩ 0x0EC03C#24 = true)
theorem rdCtryLo : Statement .rdCtryLo := fun _ => (by decide : Row.fits ⟨0x06803D, 0xF7C07F⟩ 0x0E803D#24 = true)
theorem rdCtryHi : Statement .rdCtryHi := fun _ => (by decide : Row.fits ⟨0x06C03D, 0xF7C07F⟩ 0x0EC03D#24 = true)
theorem rdBgsize0Lo : Statement .rdBgsize0Lo := fun _ => (by decide : Row.fits ⟨0x06803E, 0xF7C07F⟩ 0x0E803E#24 = true)
theorem rdBgsize0Hi : Statement .rdBgsize0Hi := fun _ => (by decide : Row.fits ⟨0x06C03E, 0xF7C07F⟩ 0x0EC03E#24 = true)
theorem rdBgsize1Lo : Statement .rdBgsize1Lo := fun _ => (by decide : Row.fits ⟨0x06803F, 0xF7C07F⟩ 0x0E803F#24 = true)
theorem rdBgsize1Hi : Statement .rdBgsize1Hi := fun _ => (by decide : Row.fits ⟨0x06C03F, 0xF7C07F⟩ 0x0EC03F#24 = true)
theorem rdBgsize2Lo : Statement .rdBgsize2Lo := fun _ => (by decide : Row.fits ⟨0x068040, 0xF7C07F⟩ 0x0E8040#24 = true)
theorem rdBgsize2Hi : Statement .rdBgsize2Hi := fun _ => (by decide : Row.fits ⟨0x06C040, 0xF7C07F⟩ 0x0EC040#24 = true)
theorem rdBgsize3Lo : Statement .rdBgsize3Lo := fun _ => (by decide : Row.fits ⟨0x068041, 0xF7C07F⟩ 0x0E8041#24 = true)
theorem rdBgsize3Hi : Statement .rdBgsize3Hi := fun _ => (by decide : Row.fits ⟨0x06C041, 0xF7C07F⟩ 0x0EC041#24 = true)
theorem rdOvlctlLo : Statement .rdOvlctlLo := fun _ => (by decide : Row.fits ⟨0x068044, 0xF7C07F⟩ 0x0E8044#24 = true)
theorem rdOvlctlHi : Statement .rdOvlctlHi := fun _ => (by decide : Row.fits ⟨0x06C044, 0xF7C07F⟩ 0x0EC044#24 = true)
theorem rdOvladdrLo : Statement .rdOvladdrLo := fun _ => (by decide : Row.fits ⟨0x068045, 0xF7C07F⟩ 0x0E8045#24 = true)
theorem rdOvladdrHi : Statement .rdOvladdrHi := fun _ => (by decide : Row.fits ⟨0x06C045, 0xF7C07F⟩ 0x0EC045#24 = true)
theorem rdOvlblocksLo : Statement .rdOvlblocksLo := fun _ => (by decide : Row.fits ⟨0x068046, 0xF7C07F⟩ 0x0E8046#24 = true)
theorem rdOvlblocksHi : Statement .rdOvlblocksHi := fun _ => (by decide : Row.fits ⟨0x06C046, 0xF7C07F⟩ 0x0EC046#24 = true)
theorem rdRirqlineLo : Statement .rdRirqlineLo := fun _ => (by decide : Row.fits ⟨0x068047, 0xF7C07F⟩ 0x0E8047#24 = true)
theorem rdRirqlineHi : Statement .rdRirqlineHi := fun _ => (by decide : Row.fits ⟨0x06C047, 0xF7C07F⟩ 0x0EC047#24 = true)
theorem rdAdctlLo : Statement .rdAdctlLo := fun _ => (by decide : Row.fits ⟨0x068050, 0xF7C07F⟩ 0x0E8050#24 = true)
theorem rdAdctlHi : Statement .rdAdctlHi := fun _ => (by decide : Row.fits ⟨0x06C050, 0xF7C07F⟩ 0x0EC050#24 = true)
theorem rdPlay0Lo : Statement .rdPlay0Lo := fun _ => (by decide : Row.fits ⟨0x068051, 0xF7C07F⟩ 0x0E8051#24 = true)
theorem rdPlay0Hi : Statement .rdPlay0Hi := fun _ => (by decide : Row.fits ⟨0x06C051, 0xF7C07F⟩ 0x0EC051#24 = true)
theorem rdEnd0Lo : Statement .rdEnd0Lo := fun _ => (by decide : Row.fits ⟨0x068052, 0xF7C07F⟩ 0x0E8052#24 = true)
theorem rdEnd0Hi : Statement .rdEnd0Hi := fun _ => (by decide : Row.fits ⟨0x06C052, 0xF7C07F⟩ 0x0EC052#24 = true)
theorem rdInter0Lo : Statement .rdInter0Lo := fun _ => (by decide : Row.fits ⟨0x068053, 0xF7C07F⟩ 0x0E8053#24 = true)
theorem rdInter0Hi : Statement .rdInter0Hi := fun _ => (by decide : Row.fits ⟨0x06C053, 0xF7C07F⟩ 0x0EC053#24 = true)
theorem rdAdstatLo : Statement .rdAdstatLo := fun _ => (by decide : Row.fits ⟨0x068054, 0xF7C07F⟩ 0x0E8054#24 = true)
theorem rdAdstatHi : Statement .rdAdstatHi := fun _ => (by decide : Row.fits ⟨0x06C054, 0xF7C07F⟩ 0x0EC054#24 = true)
theorem rdPlay1Lo : Statement .rdPlay1Lo := fun _ => (by decide : Row.fits ⟨0x068055, 0xF7C07F⟩ 0x0E8055#24 = true)
theorem rdPlay1Hi : Statement .rdPlay1Hi := fun _ => (by decide : Row.fits ⟨0x06C055, 0xF7C07F⟩ 0x0EC055#24 = true)
theorem rdEnd1Lo : Statement .rdEnd1Lo := fun _ => (by decide : Row.fits ⟨0x068056, 0xF7C07F⟩ 0x0E8056#24 = true)
theorem rdEnd1Hi : Statement .rdEnd1Hi := fun _ => (by decide : Row.fits ⟨0x06C056, 0xF7C07F⟩ 0x0EC056#24 = true)
theorem rdInter1Lo : Statement .rdInter1Lo := fun _ => (by decide : Row.fits ⟨0x068057, 0xF7C07F⟩ 0x0E8057#24 = true)
theorem rdInter1Hi : Statement .rdInter1Hi := fun _ => (by decide : Row.fits ⟨0x06C057, 0xF7C07F⟩ 0x0EC057#24 = true)

end Sys2Proof.Laws.KeyFitsRow
end

