-- ==== Sys2Proof/Laws/Rows.lean ====
section
/-! SUPPORT. What fitting a row, keeping the output rows, forwarding the bus outputs and drawing the next event do. -/

namespace Sys2Proof.Machine

/-! Rows of W_MAX entries (10_state.md R73). -/

theorem fitRow_length (c : Params) (row : List PixEntry) : (fitRow c row).length = c.wMax := by
  simp [fitRow, clearRow]

theorem PixEntry.proper_ne (e : PixEntry) : PixEntry.proper e ≠ PixEntry.idx 0 := by
  cases e <;> simp only [PixEntry.proper]
  · simp
  · split
    · simp
    · simpa using ‹_›
  · simp

theorem PixEntry.proper_of_ne {e : PixEntry} (h : e ≠ PixEntry.idx 0) : PixEntry.proper e = e := by
  cases e <;> simp_all [PixEntry.proper]

/-- A fitted row is proper. -/
theorem fitRow_proper (c : Params) (row : List PixEntry) : RowProper c (fitRow c row) := by
  refine ⟨fitRow_length c row, fun h => ?_⟩
  rcases List.mem_append.1 (List.mem_of_mem_take h) with h | h
  · obtain ⟨e, -, he⟩ := List.mem_map.1 h
    exact PixEntry.proper_ne e he
  · exact absurd (List.eq_of_mem_replicate h) (by simp)

/-- A proper row is used unchanged (log 13). -/
theorem fitRow_of_proper {c : Params} {row : List PixEntry} (h : RowProper c row) : fitRow c row = row := by
  have e : row.map PixEntry.proper = row :=
    (List.map_congr_left fun e he => PixEntry.proper_of_ne fun hx => h.2 (hx ▸ he)).trans (List.map_id' _)
  rw [fitRow, e, ← h.1]
  exact List.take_left

theorem fitTiles_length (c : Params) (row : List TileEntry) : (fitTiles c row).length = c.wMax := by
  simp [fitTiles, clearTiles]

/-! The output rows as a map (10_state.md R74). -/

theorem lookup_row (k : Nat) (r : OutRow) (l : List OutRow) :
    (r :: l).lookup k = if k = r.1 then some r.2 else l.lookup k := by
  obtain ⟨m, v⟩ := r
  rw [List.lookup_cons]
  by_cases h : k = m
  · simp [h]
  · rw [beq_false_of_ne h, if_neg h]

theorem lookup_rowsPut (n k : Nat) (row : List Rgb24) (l : List OutRow) :
    (rowsPut n row l).lookup k = if k = n then some row else l.lookup k := by
  induction l with
  | nil => exact lookup_row k (n, row) []
  | cons r rest ih =>
    unfold rowsPut
    by_cases h1 : n < r.1
    · rw [if_pos h1, lookup_row]
    · by_cases h2 : r.1 = n
      · rw [if_neg h1, if_pos h2, lookup_row, lookup_row]; split <;> simp_all
      · rw [if_neg h1, if_neg h2, lookup_row, lookup_row, ih]; split <;> simp_all

/-- RESTORE keeps of the output rows those of the picture's lines. -/
theorem lookup_canonicalRows (c : Params) (l : List OutRow) (k : Nat) :
    (canonicalRows c l).lookup k = if k < c.visibleLines then l.lookup k else none := by
  induction l with
  | nil => simp [canonicalRows]
  | cons r rest ih =>
    unfold canonicalRows
    by_cases hm : r.1 < c.visibleLines
    · rw [if_pos hm, lookup_rowsPut, lookup_row, ih]; split <;> simp_all
    · rw [if_neg hm, lookup_row, ih]
      by_cases hk : k = r.1
      · rw [hk, if_neg hm, if_neg hm]
      · rw [if_neg hk]

/-! Bus outputs (10_state.md R76) and the next-event draw (46_host_operations.md R536). -/

theorem forwardLine_calls (l : Line) (b a : Bool) (s : State) :
    (forwardLine l b a s).calls = (lineChange l b a).reverse ++ s.calls := by
  unfold forwardLine lineChange
  split <;> simp

theorem forwardData_calls (b a : Scsi) (s : State) :
    (forwardData b a s).calls =
      (lineChange .data (dataDriven b) (dataDriven a) ++
        (if dataDriven a = true ∧ (dataDriven b = false ∨ b.sout ≠ a.sout) then [Call.busSetData a.sout] else [])).reverse ++
        s.calls := by
  unfold forwardData
  split <;> simp [forwardLine_calls]

/-- The calls that forwarding makes are those of the outputs that differ. -/
theorem forwardOutputs_calls (b a : Scsi) (s : State) :
    (forwardOutputs b a s).calls = (outputChanges b a).reverse ++ s.calls := by
  simp [forwardOutputs, forwardData_calls, forwardLine_calls, outputChanges, rstOut, bsyOut, selOut, atnOut, ackOut,
    dataDriven]

/-- A next-event draw: one call, the first queued answer if there is one, and nothing else. -/
theorem busNextEvent_spec (s : State) :
    ∃ next : Option Nat, Answered s.script.nextEvents [next] ∧ (busNextEvent s).1 = next.map (max 1) ∧
      (busNextEvent s).2 =
        (call s .busNextEvent).setScript { s.script with nextEvents := s.script.nextEvents.drop 1 } := by
  cases h : s.script.nextEvents with
  | cons a rest => exact ⟨a, by simp [Answered], by simp [busNextEvent, h, atLeastOne], by simp [busNextEvent, h]⟩
  | nil =>
    refine ⟨Config.busNextEvent (call s .busNextEvent).calls, by simp [Answered], by simp [busNextEvent, h, atLeastOne], ?_⟩
    have e : { s.script with nextEvents := [].drop 1 } = (call s .busNextEvent).script := by
      rw [List.drop_nil, ← h]; rfl
    rw [e]; simp [busNextEvent, h]; rfl

end Sys2Proof.Machine
end

