-- ==== Sys2Proof/Laws/Widths.lean ====
section
/-! SUPPORT. The halves of a sub-register under its mask: what `merge & M` stores, by the width of the register
(30_encoding.md R144; 41_memory_dma_registers.md R260). -/

namespace Sys2Proof.Machine

/-- A low-half write of a register of `w ≤ 16` writable bits. -/
theorem mergeLo_narrow {w : Nat} (hw : w ≤ 16) (r : BitVec 32) (v : Word) (m : BitVec 32)
    (hm : ∀ i, i < w → m.getLsbD i = true) : (mergeLo r v &&& m).setWidth w = v.extractLsb' 0 w := by
  apply BitVec.eq_of_getLsbD_eq
  intro i hi
  simp only [BitVec.getLsbD_setWidth, BitVec.getLsbD_and, getLsbD_mergeLo, hm i hi, BitVec.getLsbD_extractLsb', hi,
    show i < 16 by omega, if_true]
  simp

/-- A high-half write leaves such a register alone. -/
theorem mergeHi_narrow {w : Nat} (hw : w ≤ 16) (x : BitVec w) (v : Word) (m : BitVec 32)
    (hm : ∀ i, i < w → m.getLsbD i = true) : (mergeHi (x.setWidth 32) v &&& m).setWidth w = x := by
  apply BitVec.eq_of_getLsbD_eq
  intro i hi
  simp only [BitVec.getLsbD_setWidth, BitVec.getLsbD_and, getLsbD_mergeHi, hm i hi, hi,
    show i < 16 by omega, show i < 32 by omega, if_true]
  simp

/-- A low-half write of a 16-bit register with writable mask `m`. -/
theorem mergeLo_masked (x v m : Word) : (mergeLo (x.setWidth 32) v &&& m.setWidth 32).setWidth 16 = v &&& m := by
  apply BitVec.eq_of_getLsbD_eq
  intro i hi
  simp only [BitVec.getLsbD_setWidth, BitVec.getLsbD_and, getLsbD_mergeLo, hi, show i < 32 by omega, if_true]
  simp

/-- A high-half write of a 16-bit register with writable mask `m`. -/
theorem mergeHi_masked (x v m : Word) : (mergeHi (x.setWidth 32) v &&& m.setWidth 32).setWidth 16 = x &&& m := by
  apply BitVec.eq_of_getLsbD_eq
  intro i hi
  simp only [BitVec.getLsbD_setWidth, BitVec.getLsbD_and, getLsbD_mergeHi, hi, show i < 32 by omega, if_true]
  simp

/-- A low-half write of a register of `16 + w` writable bits. -/
theorem mergeLo_wide {w : Nat} (hw : w ≤ 16) (x : BitVec (w + 16)) (v : Word) (m : BitVec 32)
    (hm : ∀ i, i < w + 16 → m.getLsbD i = true) :
    (mergeLo (x.setWidth 32) v &&& m).setWidth (w + 16) = x.extractLsb' 16 w ++ v := by
  apply BitVec.eq_of_getLsbD_eq
  intro i hi
  rw [BitVec.getLsbD_append]
  simp only [BitVec.getLsbD_setWidth, BitVec.getLsbD_and, getLsbD_mergeLo, hm i hi, BitVec.getLsbD_extractLsb', hi]
  by_cases h : i < 16
  · simp [h]
  · simp [h, show i < 32 by omega, show i - 16 < w by omega, show 16 + (i - 16) = i by omega]

/-- A high-half write of a register of `16 + w` writable bits. -/
theorem mergeHi_wide {w : Nat} (x : BitVec (w + 16)) (v : Word) (m : BitVec 32)
    (hm : ∀ i, i < w + 16 → m.getLsbD i = true) :
    (mergeHi (x.setWidth 32) v &&& m).setWidth (w + 16) = v.extractLsb' 0 w ++ x.extractLsb' 0 16 := by
  apply BitVec.eq_of_getLsbD_eq
  intro i hi
  rw [BitVec.getLsbD_append]
  simp only [BitVec.getLsbD_setWidth, BitVec.getLsbD_and, getLsbD_mergeHi, hm i hi, BitVec.getLsbD_extractLsb', hi]
  by_cases h : i < 16
  · simp [h, show i < 32 by omega]
  · simp [h, show i - 16 < w by omega]

/-- A low-half write of the 32-bit register. -/
theorem mergeLo_full (x : BitVec 32) (v : Word) : mergeLo x v = x.extractLsb' 16 16 ++ v := by
  apply BitVec.eq_of_getLsbD_eq
  intro i hi
  rw [BitVec.getLsbD_append, getLsbD_mergeLo]
  by_cases h : i < 16
  · simp [h]
  · simp [h, show i - 16 < 16 by omega, show 16 + (i - 16) = i by omega]

/-- A high-half write of the 32-bit register. -/
theorem mergeHi_full (x : BitVec 32) (v : Word) : mergeHi x v = v ++ x.extractLsb' 0 16 := by
  apply BitVec.eq_of_getLsbD_eq
  intro i hi
  rw [BitVec.getLsbD_append, getLsbD_mergeHi]
  by_cases h : i < 16 <;> simp [h]

end Sys2Proof.Machine
end

