-- ==== Sys2Proof/Tests/Slice0.lean ====
section
/-! SUPPORT. Small tests: ill-formed terms, the decoding of a word of every row, the vectors of 95_test_vectors.md that are
one request on a small state, and for every statement with hypotheses a state and operands that meet them. -/

namespace Sys2Proof.Tests

set_option Elab.async false

open Sys2Proof.Machine

/-! ## Helpers -/

/-- The test configuration of 92_eei_decisions.md D50. -/
def d50 : Params :=
  { tActive := ⟨8, 8⟩, tP1 := ⟨2, 2⟩, tP3m0 := ⟨2, 2⟩, tP3m1 := ⟨2, 2⟩, tP4 := ⟨2, 2⟩, hsInterval := 3, div := ⟨1, 1⟩,
    visFirst := 0, visCount := 2, width := ⟨4, 4⟩, yuv2rgb := .standard, neutral := 0x008080, rasterIncAt := .exitP3,
    unknownRead := 0, kramInit := [] }

/-- After RESET under D50, the bus answering INF to `next_event`. -/
def s0 : State := (State.afterReset d50).setExtcnt none

/-- The outcome is a next state with property `p`. -/
def gives (o : Host.Outcome State Fault Refusal) (p : State → Bool) : Bool :=
  match o with
  | .next s => p s
  | .fault _ => false
  | .refused _ => false

/-- The outcome is this refusal. -/
def refuses (o : Host.Outcome State Fault Refusal) (e : Refusal) : Bool :=
  match o with
  | .next _ => false
  | .fault _ => false
  | .refused x => decide (x = e)

/-- The key is rejected. -/
def rejects (k : Key) : Bool :=
  match decode k Args.zero with
  | .ok _ => false
  | .error _ => true

/-- A row's word decodes to its instruction, which knows the row's match and mask. -/
def rowDecodes (r : Nat × Key × Key × Instr) : Bool :=
  decide (decodeTableWord 24 r.1 = some r.2.2.2) && decide (r.2.2.2.row = ⟨r.2.1, r.2.2.1⟩) && r.2.2.2.wf

/-- The state with another palette entry. -/
def withPal (s : State) (i : BitVec 9) (v : Word) : State :=
  s.setPalette { s.palette with pal := palSet s.palette.pal i v }

/-- Bus answers queued. -/
def withBus (s : State) (levels : List Bool) (bytes : List Byte) : State :=
  s.setScript { s.script with levels := levels, bytes := bytes }

/-- A receive in progress (95_test_vectors.md V-DMA-1), with `size` bytes to come and DMACTL `ctl`. -/
def receiving (size : Nat) (ctl : Word) : State :=
  (s0.setScsi { s0.scsi with smode := 0x02, sphase := 0x01, recvAct := true }).setDma
    { s0.dma with addr := 0x100, size := BitVec.ofNat 24 size, ctl := ctl }

/-- Four rows whose first is `r`. -/
def rowsOf (r : List PixEntry) : BgRows := { bg0 := r, bg1 := [], bg2 := [], bg3 := [] }

/-! ## Ill-formed terms -/

theorem test_wf_refuses_known_controller_selector :
    (Instr.wrCUnknown 0x15 0).wf = false ∧ (Instr.rdCUnknown 0).wf = false ∧ (Instr.wrCUnknown 0x16 0).wf = true := by decide

theorem test_wf_refuses_known_memory_selector :
    (Instr.wrKUnknown false 0x13 0).wf = false ∧ (Instr.rdKUnknown true 0x57).wf = false ∧
      (Instr.wrKUnknown true 0x14 0).wf = true ∧ (Instr.rdKUnknown false 0x58).wf = true := by decide

theorem test_wf_refuses_known_space :
    (Instr.wrNospace 3 0).wf = false ∧ (Instr.rdNospace 6).wf = false ∧ (Instr.rdNospace 7).wf = true := by decide

/-! ## Decoding -/

/-- Rows 1 to 55 of spec/opcode_table.json: a word of the row, its match, its mask, its instruction. -/
def rows0 : List (Nat × Key × Key × Instr) :=
  [(0x130000, 0x130000, 0xF78000, .wrCar 0), (0x138000, 0x138000, 0xF7C07F, .wrPmode 0),
   (0x138001, 0x138001, 0xF7C07F, .wrPaladdr 0), (0x138002, 0x138002, 0xF7C07F, .wrPalwdata 0),
   (0x138003, 0x138003, 0xF7C07F, .wrPalrdata 0), (0x138004, 0x138004, 0xF7C07F, .wrPalofs0 0),
   (0x138005, 0x138005, 0xF7C07F, .wrPalofs1 0), (0x138006, 0x138006, 0xF7C07F, .wrPalofs2 0),
   (0x138007, 0x138007, 0xF7C07F, .wrPalofs3 0), (0x138008, 0x138008, 0xF7C07F, .wrPrio0 0),
   (0x138009, 0x138009, 0xF7C07F, .wrPrio1 0), (0x13800A, 0x13800A, 0xF7C07F, .wrKeyy 0),
   (0x13800B, 0x13800B, 0xF7C07F, .wrKeyu 0), (0x13800C, 0x13800C, 0xF7C07F, .wrKeyv 0),
   (0x13800D, 0x13800D, 0xF7C07F, .wrFixcol 0), (0x13800E, 0x13800E, 0xF7C07F, .wrCelctl 0),
   (0x13800F, 0x13800F, 0xF7C07F, .wrSprmask 0), (0x138010, 0x138010, 0xF7C07F, .wrCoef0 0),
   (0x138011, 0x138011, 0xF7C07F, .wrCoef1 0), (0x138012, 0x138012, 0xF7C07F, .wrCoef2 0),
   (0x138013, 0x138013, 0xF7C07F, .wrCoef3 0), (0x138014, 0x138014, 0xF7C07F, .wrCoef4 0),
   (0x138015, 0x138015, 0xF7C07F, .wrCoef5 0), (0x13C000, 0x13C000, 0xF7C000, .wrCHigh 0),
   (0x13801F, 0x130000, 0xF70000, .wrCUnknown 0x1F 0), (0x03801F, 0x030000, 0xF70000, .rdCUnknown 0x1F),
   (0x160000, 0x160000, 0xF78000, .wrKar 0), (0x168000, 0x168000, 0xF7C07F, .wrSdataLo 0),
   (0x16C000, 0x16C000, 0xF7C07F, .wrSdataHi 0), (0x168001, 0x168001, 0xF7C07F, .wrScmdLo 0),
   (0x16C001, 0x16C001, 0xF7C07F, .wrScmdHi 0), (0x168002, 0x168002, 0xF7C07F, .wrSmodeLo 0),
   (0x16C002, 0x16C002, 0xF7C07F, .wrSmodeHi 0), (0x168003, 0x168003, 0xF7C07F, .wrSphaseLo 0),
   (0x16C003, 0x16C003, 0xF7C07F, .wrSphaseHi 0), (0x168004, 0x168004, 0xF7C07F, .wrSbusLo 0),
   (0x16C004, 0x16C004, 0xF7C07F, .wrSbusHi 0), (0x168005, 0x168005, 0xF7C07F, .wrSstatLo 0),
   (0x16C005, 0x16C005, 0xF7C07F, .wrSstatHi 0), (0x168006, 0x168006, 0xF7C07F, .wrSinLo 0),
   (0x16C006, 0x16C006, 0xF7C07F, .wrSinHi 0), (0x168007, 0x168007, 0xF7C07F, .wrSrstLo 0),
   (0x16C007, 0x16C007, 0xF7C07F, .wrSrstHi 0), (0x168008, 0x168008, 0xF7C07F, .wrSackLo 0),
   (0x16C008, 0x16C008, 0xF7C07F, .wrSackHi 0), (0x168009, 0x168009, 0xF7C07F, .wrDmaaddrLo 0),
   (0x16C009, 0x16C009, 0xF7C07F, .wrDmaaddrHi 0), (0x16800A, 0x16800A, 0xF7C07F, .wrDmasizeLo 0),
   (0x16C00A, 0x16C00A, 0xF7C07F, .wrDmasizeHi 0), (0x16800B, 0x16800B, 0xF7C07F, .wrDmactlLo 0),
   (0x16C00B, 0x16C00B, 0xF7C07F, .wrDmactlHi 0), (0x16800C, 0x16800C, 0xF7C07F, .wrKramraLo 0),
   (0x16C00C, 0x16C00C, 0xF7C07F, .wrKramraHi 0), (0x16800D, 0x16800D, 0xF7C07F, .wrKramwaLo 0),
   (0x16C00D, 0x16C00D, 0xF7C07F, .wrKramwaHi 0)]

theorem test_rows0_decode : rows0.all rowDecodes = true := by decide +kernel

/-- Rows 56 to 110 of spec/opcode_table.json: a word of the row, its match, its mask, its instruction. -/
def rows1 : List (Nat × Key × Key × Instr) :=
  [(0x16800E, 0x16800E, 0xF7C07F, .wrKramdataLo 0), (0x16C00E, 0x16C00E, 0xF7C07F, .wrKramdataHi 0),
   (0x16800F, 0x16800F, 0xF7C07F, .wrPageLo 0), (0x16C00F, 0x16C00F, 0xF7C07F, .wrPageHi 0),
   (0x168010, 0x168010, 0xF7C07F, .wrMpaddrLo 0), (0x16C010, 0x16C010, 0xF7C07F, .wrMpaddrHi 0),
   (0x168011, 0x168011, 0xF7C07F, .wrMpdataLo 0), (0x16C011, 0x16C011, 0xF7C07F, .wrMpdataHi 0),
   (0x168012, 0x168012, 0xF7C07F, .wrMpctlLo 0), (0x16C012, 0x16C012, 0xF7C07F, .wrMpctlHi 0),
   (0x168013, 0x168013, 0xF7C07F, .wrBgendlessLo 0), (0x16C013, 0x16C013, 0xF7C07F, .wrBgendlessHi 0),
   (0x168015, 0x168015, 0xF7C07F, .wrBgmodeLo 0), (0x16C015, 0x16C015, 0xF7C07F, .wrBgmodeHi 0),
   (0x168020, 0x168020, 0xF7C07F, .wrBat0Lo 0), (0x16C020, 0x16C020, 0xF7C07F, .wrBat0Hi 0),
   (0x168021, 0x168021, 0xF7C07F, .wrBat1Lo 0), (0x16C021, 0x16C021, 0xF7C07F, .wrBat1Hi 0),
   (0x168022, 0x168022, 0xF7C07F, .wrBat2Lo 0), (0x16C022, 0x16C022, 0xF7C07F, .wrBat2Hi 0),
   (0x168023, 0x168023, 0xF7C07F, .wrBat3Lo 0), (0x16C023, 0x16C023, 0xF7C07F, .wrBat3Hi 0),
   (0x168024, 0x168024, 0xF7C07F, .wrCg0Lo 0), (0x16C024, 0x16C024, 0xF7C07F, .wrCg0Hi 0),
   (0x168025, 0x168025, 0xF7C07F, .wrCg1Lo 0), (0x16C025, 0x16C025, 0xF7C07F, .wrCg1Hi 0),
   (0x168026, 0x168026, 0xF7C07F, .wrCg2Lo 0), (0x16C026, 0x16C026, 0xF7C07F, .wrCg2Hi 0),
   (0x168027, 0x168027, 0xF7C07F, .wrCg3Lo 0), (0x16C027, 0x16C027, 0xF7C07F, .wrCg3Hi 0),
   (0x168028, 0x168028, 0xF7C07F, .wrSubbat0Lo 0), (0x16C028, 0x16C028, 0xF7C07F, .wrSubbat0Hi 0),
   (0x168029, 0x168029, 0xF7C07F, .wrSubbat1Lo 0), (0x16C029, 0x16C029, 0xF7C07F, .wrSubbat1Hi 0),
   (0x16802A, 0x16802A, 0xF7C07F, .wrSubbat2Lo 0), (0x16C02A, 0x16C02A, 0xF7C07F, .wrSubbat2Hi 0),
   (0x16802B, 0x16802B, 0xF7C07F, .wrSubbat3Lo 0), (0x16C02B, 0x16C02B, 0xF7C07F, .wrSubbat3Hi 0),
   (0x16802C, 0x16802C, 0xF7C07F, .wrSubcg0Lo 0), (0x16C02C, 0x16C02C, 0xF7C07F, .wrSubcg0Hi 0),
   (0x16802D, 0x16802D, 0xF7C07F, .wrSubcg1Lo 0), (0x16C02D, 0x16C02D, 0xF7C07F, .wrSubcg1Hi 0),
   (0x16802E, 0x16802E, 0xF7C07F, .wrSubcg2Lo 0), (0x16C02E, 0x16C02E, 0xF7C07F, .wrSubcg2Hi 0),
   (0x16802F, 0x16802F, 0xF7C07F, .wrSubcg3Lo 0), (0x16C02F, 0x16C02F, 0xF7C07F, .wrSubcg3Hi 0),
   (0x168030, 0x168030, 0xF7C07F, .wrScrx0Lo 0), (0x16C030, 0x16C030, 0xF7C07F, .wrScrx0Hi 0),
   (0x168031, 0x168031, 0xF7C07F, .wrScry0Lo 0), (0x16C031, 0x16C031, 0xF7C07F, .wrScry0Hi 0),
   (0x168032, 0x168032, 0xF7C07F, .wrScrx1Lo 0), (0x16C032, 0x16C032, 0xF7C07F, .wrScrx1Hi 0),
   (0x168033, 0x168033, 0xF7C07F, .wrScry1Lo 0), (0x16C033, 0x16C033, 0xF7C07F, .wrScry1Hi 0),
   (0x168034, 0x168034, 0xF7C07F, .wrScrx2Lo 0)]

theorem test_rows1_decode : rows1.all rowDecodes = true := by decide +kernel

/-- Rows 111 to 165 of spec/opcode_table.json: a word of the row, its match, its mask, its instruction. -/
def rows2 : List (Nat × Key × Key × Instr) :=
  [(0x16C034, 0x16C034, 0xF7C07F, .wrScrx2Hi 0), (0x168035, 0x168035, 0xF7C07F, .wrScry2Lo 0),
   (0x16C035, 0x16C035, 0xF7C07F, .wrScry2Hi 0), (0x168036, 0x168036, 0xF7C07F, .wrScrx3Lo 0),
   (0x16C036, 0x16C036, 0xF7C07F, .wrScrx3Hi 0), (0x168037, 0x168037, 0xF7C07F, .wrScry3Lo 0),
   (0x16C037, 0x16C037, 0xF7C07F, .wrScry3Hi 0), (0x168038, 0x168038, 0xF7C07F, .wrAffaLo 0),
   (0x16C038, 0x16C038, 0xF7C07F, .wrAffaHi 0), (0x168039, 0x168039, 0xF7C07F, .wrAffbLo 0),
   (0x16C039, 0x16C039, 0xF7C07F, .wrAffbHi 0), (0x16803A, 0x16803A, 0xF7C07F, .wrAffcLo 0),
   (0x16C03A, 0x16C03A, 0xF7C07F, .wrAffcHi 0), (0x16803B, 0x16803B, 0xF7C07F, .wrAffdLo 0),
   (0x16C03B, 0x16C03B, 0xF7C07F, .wrAffdHi 0), (0x16803C, 0x16803C, 0xF7C07F, .wrCtrxLo 0),
   (0x16C03C, 0x16C03C, 0xF7C07F, .wrCtrxHi 0), (0x16803D, 0x16803D, 0xF7C07F, .wrCtryLo 0),
   (0x16C03D, 0x16C03D, 0xF7C07F, .wrCtryHi 0), (0x16803E, 0x16803E, 0xF7C07F, .wrBgsize0Lo 0),
   (0x16C03E, 0x16C03E, 0xF7C07F, .wrBgsize0Hi 0), (0x16803F, 0x16803F, 0xF7C07F, .wrBgsize1Lo 0),
   (0x16C03F, 0x16C03F, 0xF7C07F, .wrBgsize1Hi 0), (0x168040, 0x168040, 0xF7C07F, .wrBgsize2Lo 0),
   (0x16C040, 0x16C040, 0xF7C07F, .wrBgsize2Hi 0), (0x168041, 0x168041, 0xF7C07F, .wrBgsize3Lo 0),
   (0x16C041, 0x16C041, 0xF7C07F, .wrBgsize3Hi 0), (0x168044, 0x168044, 0xF7C07F, .wrOvlctlLo 0),
   (0x16C044, 0x16C044, 0xF7C07F, .wrOvlctlHi 0), (0x168045, 0x168045, 0xF7C07F, .wrOvladdrLo 0),
   (0x16C045, 0x16C045, 0xF7C07F, .wrOvladdrHi 0), (0x168046, 0x168046, 0xF7C07F, .wrOvlblocksLo 0),
   (0x16C046, 0x16C046, 0xF7C07F, .wrOvlblocksHi 0), (0x168047, 0x168047, 0xF7C07F, .wrRirqlineLo 0),
   (0x16C047, 0x16C047, 0xF7C07F, .wrRirqlineHi 0), (0x168050, 0x168050, 0xF7C07F, .wrAdctlLo 0),
   (0x16C050, 0x16C050, 0xF7C07F, .wrAdctlHi 0), (0x168051, 0x168051, 0xF7C07F, .wrPlay0Lo 0),
   (0x16C051, 0x16C051, 0xF7C07F, .wrPlay0Hi 0), (0x168052, 0x168052, 0xF7C07F, .wrEnd0Lo 0),
   (0x16C052, 0x16C052, 0xF7C07F, .wrEnd0Hi 0), (0x168053, 0x168053, 0xF7C07F, .wrInter0Lo 0),
   (0x16C053, 0x16C053, 0xF7C07F, .wrInter0Hi 0), (0x168054, 0x168054, 0xF7C07F, .wrAdstatLo 0),
   (0x16C054, 0x16C054, 0xF7C07F, .wrAdstatHi 0), (0x168055, 0x168055, 0xF7C07F, .wrPlay1Lo 0),
   (0x16C055, 0x16C055, 0xF7C07F, .wrPlay1Hi 0), (0x168056, 0x168056, 0xF7C07F, .wrEnd1Lo 0),
   (0x16C056, 0x16C056, 0xF7C07F, .wrEnd1Hi 0), (0x168057, 0x168057, 0xF7C07F, .wrInter1Lo 0),
   (0x16C057, 0x16C057, 0xF7C07F, .wrInter1Hi 0), (0x168014, 0x160000, 0xF70000, .wrKUnknown false 0x14 0),
   (0x06C07F, 0x060000, 0xF70000, .rdKUnknown true 0x7F), (0x110000, 0x100000, 0xF00000, .wrNospace 1 0),
   (0x000000, 0x000000, 0xF00000, .rdNospace 0)]

theorem test_rows2_decode : rows2.all rowDecodes = true := by decide +kernel

/-- Rows 166 to 220 of spec/opcode_table.json: a word of the row, its match, its mask, its instruction. -/
def rows3 : List (Nat × Key × Key × Instr) :=
  [(0x200000, 0x200000, 0xF00000, .run 0), (0x300000, 0x300000, 0xF00000, .reset 0),
   (0x400000, 0x400000, 0xF00000, .save), (0x600000, 0x600000, 0xF00000, .playfetch .ch0),
   (0x030000, 0x030000, 0xF78000, .rdCstat), (0x038000, 0x038000, 0xF7C07F, .rdPmode),
   (0x038001, 0x038001, 0xF7C07F, .rdPaladdr), (0x038002, 0x038002, 0xF7C07F, .rdPalwdata),
   (0x038003, 0x038003, 0xF7C07F, .rdPalrdata), (0x038004, 0x038004, 0xF7C07F, .rdPalofs0),
   (0x038005, 0x038005, 0xF7C07F, .rdPalofs1), (0x038006, 0x038006, 0xF7C07F, .rdPalofs2),
   (0x038007, 0x038007, 0xF7C07F, .rdPalofs3), (0x038008, 0x038008, 0xF7C07F, .rdPrio0),
   (0x038009, 0x038009, 0xF7C07F, .rdPrio1), (0x03800A, 0x03800A, 0xF7C07F, .rdKeyy),
   (0x03800B, 0x03800B, 0xF7C07F, .rdKeyu), (0x03800C, 0x03800C, 0xF7C07F, .rdKeyv),
   (0x03800D, 0x03800D, 0xF7C07F, .rdFixcol), (0x03800E, 0x03800E, 0xF7C07F, .rdCelctl),
   (0x03800F, 0x03800F, 0xF7C07F, .rdSprmask), (0x038010, 0x038010, 0xF7C07F, .rdCoef0),
   (0x038011, 0x038011, 0xF7C07F, .rdCoef1), (0x038012, 0x038012, 0xF7C07F, .rdCoef2),
   (0x038013, 0x038013, 0xF7C07F, .rdCoef3), (0x038014, 0x038014, 0xF7C07F, .rdCoef4),
   (0x038015, 0x038015, 0xF7C07F, .rdCoef5), (0x03C000, 0x03C000, 0xF7C000, .rdCHigh),
   (0x060000, 0x060000, 0xF78000, .rdKstat), (0x068000, 0x068000, 0xF7C07F, .rdSdataLo),
   (0x06C000, 0x06C000, 0xF7C07F, .rdSdataHi), (0x068001, 0x068001, 0xF7C07F, .rdScmdLo),
   (0x06C001, 0x06C001, 0xF7C07F, .rdScmdHi), (0x068002, 0x068002, 0xF7C07F, .rdSmodeLo),
   (0x06C002, 0x06C002, 0xF7C07F, .rdSmodeHi), (0x068003, 0x068003, 0xF7C07F, .rdSphaseLo),
   (0x06C003, 0x06C003, 0xF7C07F, .rdSphaseHi), (0x068004, 0x068004, 0xF7C07F, .rdSbusLo),
   (0x06C004, 0x06C004, 0xF7C07F, .rdSbusHi), (0x068005, 0x068005, 0xF7C07F, .rdSstatLo),
   (0x06C005, 0x06C005, 0xF7C07F, .rdSstatHi), (0x068006, 0x068006, 0xF7C07F, .rdSinLo),
   (0x06C006, 0x06C006, 0xF7C07F, .rdSinHi), (0x068007, 0x068007, 0xF7C07F, .rdSrstLo),
   (0x06C007, 0x06C007, 0xF7C07F, .rdSrstHi), (0x068008, 0x068008, 0xF7C07F, .rdSackLo),
   (0x06C008, 0x06C008, 0xF7C07F, .rdSackHi), (0x068009, 0x068009, 0xF7C07F, .rdDmaaddrLo),
   (0x06C009, 0x06C009, 0xF7C07F, .rdDmaaddrHi), (0x06800A, 0x06800A, 0xF7C07F, .rdDmasizeLo),
   (0x06C00A, 0x06C00A, 0xF7C07F, .rdDmasizeHi), (0x06800B, 0x06800B, 0xF7C07F, .rdDmactlLo),
   (0x06C00B, 0x06C00B, 0xF7C07F, .rdDmactlHi), (0x06800C, 0x06800C, 0xF7C07F, .rdKramraLo),
   (0x06C00C, 0x06C00C, 0xF7C07F, .rdKramraHi)]

theorem test_rows3_decode : rows3.all rowDecodes = true := by decide +kernel

/-- Rows 221 to 275 of spec/opcode_table.json: a word of the row, its match, its mask, its instruction. -/
def rows4 : List (Nat × Key × Key × Instr) :=
  [(0x06800D, 0x06800D, 0xF7C07F, .rdKramwaLo), (0x06C00D, 0x06C00D, 0xF7C07F, .rdKramwaHi),
   (0x06800E, 0x06800E, 0xF7C07F, .rdKramdataLo), (0x06C00E, 0x06C00E, 0xF7C07F, .rdKramdataHi),
   (0x06800F, 0x06800F, 0xF7C07F, .rdPageLo), (0x06C00F, 0x06C00F, 0xF7C07F, .rdPageHi),
   (0x068010, 0x068010, 0xF7C07F, .rdMpaddrLo), (0x06C010, 0x06C010, 0xF7C07F, .rdMpaddrHi),
   (0x068011, 0x068011, 0xF7C07F, .rdMpdataLo), (0x06C011, 0x06C011, 0xF7C07F, .rdMpdataHi),
   (0x068012, 0x068012, 0xF7C07F, .rdMpctlLo), (0x06C012, 0x06C012, 0xF7C07F, .rdMpctlHi),
   (0x068013, 0x068013, 0xF7C07F, .rdBgendlessLo), (0x06C013, 0x06C013, 0xF7C07F, .rdBgendlessHi),
   (0x068015, 0x068015, 0xF7C07F, .rdBgmodeLo), (0x06C015, 0x06C015, 0xF7C07F, .rdBgmodeHi),
   (0x068020, 0x068020, 0xF7C07F, .rdBat0Lo), (0x06C020, 0x06C020, 0xF7C07F, .rdBat0Hi),
   (0x068021, 0x068021, 0xF7C07F, .rdBat1Lo), (0x06C021, 0x06C021, 0xF7C07F, .rdBat1Hi),
   (0x068022, 0x068022, 0xF7C07F, .rdBat2Lo), (0x06C022, 0x06C022, 0xF7C07F, .rdBat2Hi),
   (0x068023, 0x068023, 0xF7C07F, .rdBat3Lo), (0x06C023, 0x06C023, 0xF7C07F, .rdBat3Hi),
   (0x068024, 0x068024, 0xF7C07F, .rdCg0Lo), (0x06C024, 0x06C024, 0xF7C07F, .rdCg0Hi),
   (0x068025, 0x068025, 0xF7C07F, .rdCg1Lo), (0x06C025, 0x06C025, 0xF7C07F, .rdCg1Hi),
   (0x068026, 0x068026, 0xF7C07F, .rdCg2Lo), (0x06C026, 0x06C026, 0xF7C07F, .rdCg2Hi),
   (0x068027, 0x068027, 0xF7C07F, .rdCg3Lo), (0x06C027, 0x06C027, 0xF7C07F, .rdCg3Hi),
   (0x068028, 0x068028, 0xF7C07F, .rdSubbat0Lo), (0x06C028, 0x06C028, 0xF7C07F, .rdSubbat0Hi),
   (0x068029, 0x068029, 0xF7C07F, .rdSubbat1Lo), (0x06C029, 0x06C029, 0xF7C07F, .rdSubbat1Hi),
   (0x06802A, 0x06802A, 0xF7C07F, .rdSubbat2Lo), (0x06C02A, 0x06C02A, 0xF7C07F, .rdSubbat2Hi),
   (0x06802B, 0x06802B, 0xF7C07F, .rdSubbat3Lo), (0x06C02B, 0x06C02B, 0xF7C07F, .rdSubbat3Hi),
   (0x06802C, 0x06802C, 0xF7C07F, .rdSubcg0Lo), (0x06C02C, 0x06C02C, 0xF7C07F, .rdSubcg0Hi),
   (0x06802D, 0x06802D, 0xF7C07F, .rdSubcg1Lo), (0x06C02D, 0x06C02D, 0xF7C07F, .rdSubcg1Hi),
   (0x06802E, 0x06802E, 0xF7C07F, .rdSubcg2Lo), (0x06C02E, 0x06C02E, 0xF7C07F, .rdSubcg2Hi),
   (0x06802F, 0x06802F, 0xF7C07F, .rdSubcg3Lo), (0x06C02F, 0x06C02F, 0xF7C07F, .rdSubcg3Hi),
   (0x068030, 0x068030, 0xF7C07F, .rdScrx0Lo), (0x06C030, 0x06C030, 0xF7C07F, .rdScrx0Hi),
   (0x068031, 0x068031, 0xF7C07F, .rdScry0Lo), (0x06C031, 0x06C031, 0xF7C07F, .rdScry0Hi),
   (0x068032, 0x068032, 0xF7C07F, .rdScrx1Lo), (0x06C032, 0x06C032, 0xF7C07F, .rdScrx1Hi),
   (0x068033, 0x068033, 0xF7C07F, .rdScry1Lo)]

theorem test_rows4_decode : rows4.all rowDecodes = true := by decide +kernel

/-- Rows 276 to 328 of spec/opcode_table.json: a word of the row, its match, its mask, its instruction. -/
def rows5 : List (Nat × Key × Key × Instr) :=
  [(0x06C033, 0x06C033, 0xF7C07F, .rdScry1Hi), (0x068034, 0x068034, 0xF7C07F, .rdScrx2Lo),
   (0x06C034, 0x06C034, 0xF7C07F, .rdScrx2Hi), (0x068035, 0x068035, 0xF7C07F, .rdScry2Lo),
   (0x06C035, 0x06C035, 0xF7C07F, .rdScry2Hi), (0x068036, 0x068036, 0xF7C07F, .rdScrx3Lo),
   (0x06C036, 0x06C036, 0xF7C07F, .rdScrx3Hi), (0x068037, 0x068037, 0xF7C07F, .rdScry3Lo),
   (0x06C037, 0x06C037, 0xF7C07F, .rdScry3Hi), (0x068038, 0x068038, 0xF7C07F, .rdAffaLo),
   (0x06C038, 0x06C038, 0xF7C07F, .rdAffaHi), (0x068039, 0x068039, 0xF7C07F, .rdAffbLo),
   (0x06C039, 0x06C039, 0xF7C07F, .rdAffbHi), (0x06803A, 0x06803A, 0xF7C07F, .rdAffcLo),
   (0x06C03A, 0x06C03A, 0xF7C07F, .rdAffcHi), (0x06803B, 0x06803B, 0xF7C07F, .rdAffdLo),
   (0x06C03B, 0x06C03B, 0xF7C07F, .rdAffdHi), (0x06803C, 0x06803C, 0xF7C07F, .rdCtrxLo),
   (0x06C03C, 0x06C03C, 0xF7C07F, .rdCtrxHi), (0x06803D, 0x06803D, 0xF7C07F, .rdCtryLo),
   (0x06C03D, 0x06C03D, 0xF7C07F, .rdCtryHi), (0x06803E, 0x06803E, 0xF7C07F, .rdBgsize0Lo),
   (0x06C03E, 0x06C03E, 0xF7C07F, .rdBgsize0Hi), (0x06803F, 0x06803F, 0xF7C07F, .rdBgsize1Lo),
   (0x06C03F, 0x06C03F, 0xF7C07F, .rdBgsize1Hi), (0x068040, 0x068040, 0xF7C07F, .rdBgsize2Lo),
   (0x06C040, 0x06C040, 0xF7C07F, .rdBgsize2Hi), (0x068041, 0x068041, 0xF7C07F, .rdBgsize3Lo),
   (0x06C041, 0x06C041, 0xF7C07F, .rdBgsize3Hi), (0x068044, 0x068044, 0xF7C07F, .rdOvlctlLo),
   (0x06C044, 0x06C044, 0xF7C07F, .rdOvlctlHi), (0x068045, 0x068045, 0xF7C07F, .rdOvladdrLo),
   (0x06C045, 0x06C045, 0xF7C07F, .rdOvladdrHi), (0x068046, 0x068046, 0xF7C07F, .rdOvlblocksLo),
   (0x06C046, 0x06C046, 0xF7C07F, .rdOvlblocksHi), (0x068047, 0x068047, 0xF7C07F, .rdRirqlineLo),
   (0x06C047, 0x06C047, 0xF7C07F, .rdRirqlineHi), (0x068050, 0x068050, 0xF7C07F, .rdAdctlLo),
   (0x06C050, 0x06C050, 0xF7C07F, .rdAdctlHi), (0x068051, 0x068051, 0xF7C07F, .rdPlay0Lo),
   (0x06C051, 0x06C051, 0xF7C07F, .rdPlay0Hi), (0x068052, 0x068052, 0xF7C07F, .rdEnd0Lo),
   (0x06C052, 0x06C052, 0xF7C07F, .rdEnd0Hi), (0x068053, 0x068053, 0xF7C07F, .rdInter0Lo),
   (0x06C053, 0x06C053, 0xF7C07F, .rdInter0Hi), (0x068054, 0x068054, 0xF7C07F, .rdAdstatLo),
   (0x06C054, 0x06C054, 0xF7C07F, .rdAdstatHi), (0x068055, 0x068055, 0xF7C07F, .rdPlay1Lo),
   (0x06C055, 0x06C055, 0xF7C07F, .rdPlay1Hi), (0x068056, 0x068056, 0xF7C07F, .rdEnd1Lo),
   (0x06C056, 0x06C056, 0xF7C07F, .rdEnd1Hi), (0x068057, 0x068057, 0xF7C07F, .rdInter1Lo),
   (0x06C057, 0x06C057, 0xF7C07F, .rdInter1Hi)]

theorem test_rows5_decode : rows5.all rowDecodes = true := by decide +kernel

/-- RESTORE's row, of the table's host requests. -/
theorem test_restore_decodes : decodeTableWord 24 0x500000 = some (.restore Snapshot.zero) := rfl

/-- 30_encoding.md R152. -/
theorem test_reserved_keys_rejected :
    (rejects 0x700000 && rejects 0xF80000 && rejects 0x9FFFFF && (decodeTableWord 24 0x800000).isNone &&
      (decodeTableWord 24 0x1000000).isNone) = true := by decide +kernel

/-- The bits [12:7], SZ and LANE select nothing (30_encoding.md R141, R142). -/
theorem test_ignored_key_bits :
    decodeTableWord 24 0x1BBF8D = some (.wrFixcol 0) ∧ decodeTableWord 24 0x0BBF9F = some (.rdCUnknown 0x1F) := by decide +kernel

/-! ## Bus decode (V-BUS) -/

/-- V-BUS-1. -/
theorem test_bus_1 :
    (decide (requestKey (s0.setCar 0x0D) (.write 0 0x304 .half 0x1234) = 0x1B800D) &&
      gives (perform (.write 0 0x304 .half 0x1234) (s0.setCar 0x0D)) fun t => t.pic.fixcol == 0x1234) = true := by
  decide +kernel

/-- V-BUS-2, V-BUS-3. -/
theorem test_bus_bytes :
    (gives (perform (.write 0 0x305 .byte 0x12) (s0.setCar 0x0D)) (fun t => t.pic.fixcol == 0x1200) &&
      gives (perform (.write 0 0x304 .byte 0x34) (s0.setCar 0x0D)) fun t => t.pic.fixcol == 0x0034) = true := by
  decide +kernel

/-- V-BUS-4. -/
theorem test_bus_4 :
    gives (perform (.read 0 0x305 .byte) ((s0.setCar 0x0D).setPic { s0.pic with fixcol := 0x1234 }))
      (fun t => t.reply == .byte 0x12) = true := by decide +kernel

/-- V-BUS-5, V-BUS-6, V-BUS-7: A[0], A[7:3] and A[11] are ignored. -/
theorem test_bus_ignored_bits :
    (gives (perform (.write 0 0x305 .half 0x5678) (s0.setCar 0x0D)) (fun t => t.pic.fixcol == 0x5678) &&
      gives (perform (.write 0 0x3F8 .half 0x0001) s0) (fun t => t.car == 1) &&
      gives (perform (.write 0 0xB04 .half 0x0088) (s0.setCar 2)) fun t => palGet t.palette.pal 0 == 0x0088) = true := by
  decide +kernel

/-- V-BUS-8. -/
theorem test_bus_8 :
    (decide (requestKey s0 (.read 0 0x104 .half) = 0x098000) &&
      gives (perform (.read 0 0x104 .half) s0) fun t => t.reply == .word 0 && t.calls == s0.calls) = true := by
  decide +kernel

/-- V-BUS-9. -/
theorem test_bus_9 :
    gives (perform (.write 0 0x606 .half 0x0001) ((s0.setKar 0x0A).setDma { s0.dma with size := 4 }))
      (fun t => t.dma.size == 0x010004) = true := by decide +kernel

/-- V-BUS-12, V-BUS-13. -/
theorem test_bus_refusals :
    (refuses (step (s0.setRequests [.reserved 0])) (.reservedRequest 7) &&
      refuses (step ((s0.setTiming { s0.timing with now := 10 }).setRequests [.read 5 0x300 .half]))
        (.timestampBeforeNow 5 10)) = true := by decide +kernel

/-! ## Controller registers (V-CR) -/

/-- V-CR-1; V-CR-8, V-CR-9. -/
theorem test_car_and_status :
    (gives (exec (.wrCar 0x0023) s0) (fun t => t.car == 3) && gives (exec .rdCstat s0) (fun t => t.reply == .word 0x0400) &&
      gives (exec .rdCstat (s0.setTiming { s0.timing with raster := 21, odd := true, hphase := .part1 }))
        fun t => t.reply == .word 0x0215) = true := by decide +kernel

/-- V-CR-2, V-CR-3, V-CR-7, V-CR-11: the writable masks. -/
theorem test_controller_masks :
    (gives (exec (.wrPrio1 0xFFFF) s0) (fun t => t.pic.prio1 == 0x0FFF) &&
      gives (exec (.wrPmode 0xFFFF) s0) (fun t => t.pic.pmode == 0x7F0B) &&
      gives (exec (.wrCoef0 0xF888) s0) (fun t => t.pic.coef0 == 0x888) &&
      gives (exec (.wrPalofs3 0xABCD) s0) fun t => t.pic.palofs3 == 0x00CD && pbase t.pic .ovl == 0x19A) = true := by
  decide +kernel

/-- V-CR-5, V-CR-6. -/
theorem test_controller_inert :
    (gives (perform (.write 0 0x304 .half 0x1234) (s0.setCar 0x1F)) (fun t => t.pic == s0.pic) &&
      gives (perform (.write 0 0x306 .half 0xFFFF) ((s0.setCar 8).setPic { s0.pic with prio0 := 0x1234 }))
        (fun t => t.pic.prio0 == 0x1234) &&
      gives (perform (.read 0 0x306 .half) ((s0.setCar 8).setPic { s0.pic with prio0 := 0x1234 }))
        fun t => t.reply == .word 0) = true := by decide +kernel

/-- V-CR-10. -/
theorem test_palette_bases :
    gives (exec (.wrPalofs1 0x0210) s0) (fun t => pbase t.pic .bg0 == 0x20 && pbase t.pic .bg1 == 0x04) = true := by
  decide +kernel

/-! ## Palette and converter (V-PAL, V-YUV) -/

/-- V-PAL-1. -/
theorem test_paladdr :
    gives (exec (.wrPaladdr 0x0005) (withPal s0 5 0x8088)) (fun t => t.palette.cur == 5 && t.palette.latch == 0x8088) = true := by
  decide +kernel

/-- V-PAL-2, its first data write: the cursor wraps, both halves of the cache. -/
theorem test_palwdata :
    gives (exec (.wrPalwdata 0xFF00) (s0.setPalette { s0.palette with cur := 511 }))
      (fun t => palGet t.palette.pal 511 == 0xFF00 && pcacheGet t.pcache 511 == 0xFF0000 &&
        pcacheGet t.pcache 1023 == 0xFF0000 && t.palette.cur == 0) = true := by decide +kernel

/-- V-PAL-4, its first read; V-PAL-5; V-PAL-6. -/
theorem test_palrdata :
    let s := withPal (s0.setPalette { s0.palette with cur := 511, latch := 0xFF00 }) 0 0x8088
    (gives (exec .rdPalrdata s) (fun t => t.reply == .word 0xFF00 && t.palette.cur == 0 && t.palette.latch == 0x8088) &&
      gives (exec .rdPalwdata s) (fun t => t.reply == .word 0 && t.palette.cur == 511) &&
      gives (exec (.wrPalrdata 0x1234) s) fun t => t.palette.cur == 511 && t.palette.latch == 0xFF00) = true := by decide +kernel

/-- 95_test_vectors.md section 4, EXPAND. -/
theorem test_expand :
    expand 0xFFFF = 0xFFF0F0 ∧ expand 0x8088 = 0x808080 ∧ expand 0x10C3 = 0x10C030 := by decide +kernel

/-- V-YUV-3 to V-YUV-6. -/
theorem test_yuv :
    yuv2rgb .standard 0x008080 = 0x000000 ∧ yuv2rgb .standard 0x8080FF = 0xFF2680 ∧
      yuv2rgb .standard 0x800080 = 0x80AC00 ∧ yuv2rgb .standard 0x10C030 = 0x003481 := by decide +kernel

/-! ## Ranks, priority table, key, cellophane (V-RANK, V-PT, V-KEY, V-CEL) -/

/-- V-RANK-3, V-RANK-5. -/
theorem test_ranks :
    resolveRanks { PicRegs.zero with pmode := 0x0E00, prio0 := 0x0025, prio1 := 0x0100 } = ⟨3, 2, 0, 0, 0, 0, 1⟩ ∧
      resolveRanks { PicRegs.zero with pmode := 0x7F00, prio0 := 0x1234, prio1 := 0x0567 } = ⟨4, 3, 2, 1, 7, 6, 5⟩ := by
  decide +kernel

/-- Five rows of V-PT. -/
theorem test_priority_table :
    priorityTable 0 0 0 = ⟨.t, none, none⟩ ∧ priorityTable 2 3 1 = ⟨.o, some .t, some .b⟩ ∧
      priorityTable 2 0 1 = ⟨.o, none, some .t⟩ ∧ priorityTable 0 0 5 = ⟨.o, none, some .o⟩ ∧
      priorityTable 8 8 8 = ⟨.t, some .b, some .o⟩ := by decide

/-- V-KEY-1, V-KEY-4 to V-KEY-6, V-KEY-8. -/
theorem test_chroma_key :
    let p := { PicRegs.zero with keyy := 0x1010, keyu := 0x8080, keyv := 0x8080 }
    keyed p 0x108080 = true ∧ keyed p 0x108180 = false ∧ keyed p 0x10807F = false ∧
      keyed { p with pmode := 0x0008 } 0x108080 = false ∧ keyed { p with keyy := 0x0010 } 0x108080 = false := by
  decide +kernel

/-- V-CEL-1, V-CEL-4 to V-CEL-7. -/
theorem test_blend :
    blend 0x444 0x444 0xC08080 0x408080 = 0x808080 ∧ blend 0xF00 0xF00 0xFF8080 0xFF8080 = 0xFF8080 ∧
      blend 0x0F0 0x0F0 0x800080 0x800080 = 0x000080 ∧ blend 0x830 0x000 0x807F80 0x808080 = 0x808080 ∧
      blend 0x080 0x000 0x80FF80 0x808080 = 0x00FF80 := by decide +kernel

/-! ## Composed pixels (V-CMP) -/

/-- The cache of V-CMP. -/
def cmpCache : Vector Yuv24 1024 := pcacheSet (pcacheSet (pcacheSet pcacheZero 0 0x408080) 1 0xFF8080) 2 0xC08080

/-- A row under registers `p`, BG0 row `bg`, overlay row `o`, tile row `tl`. -/
def composed (p : PicRegs) (bg o : List PixEntry) (tl : List TileEntry) : List Rgb24 :=
  composeLine d50 { pic := p, pcache := cmpCache, rank := resolveRanks p }
    { tbuf := tl, tpos := 0, bgrows := rowsOf bg, obuf := o }

/-- V-CMP-1. -/
theorem test_compose_1 :
    composed { PicRegs.zero with pmode := 0x0400, prio0 := 0x0003 } [.idx 1, .transparent, .idx 1, .transparent] [] [] =
      [0xFFFFFF, 0x404040, 0xFFFFFF, 0x404040] := by decide +kernel

/-- V-CMP-5 and V-CMP-6 in column 0: cellophane over the overlay, and over FIXCOL. -/
theorem test_compose_cellophane :
    let p :=
      { PicRegs.zero with pmode := 0x4400, prio0 := 0x0001, prio1 := 0x0002, celctl := 0x8040, coef0 := 0x444,
                          coef1 := 0x444, keyy := 0x1010 }
    (composed p [.idx 2] [.direct 0x408080] []).take 1 = [0x808080] ∧
      (composed { p with celctl := 0xC040, fixcol := 0x0088 } [.idx 2] [.direct 0x408080] []).take 1 = [0x606060] := by
  decide +kernel

/-- V-CMP-8 and V-CMP-9 with entry 2 of bank 0 in place of entry 0x25 of bank 2: the masked bank is copied. -/
theorem test_compose_sprite_mask :
    let p :=
      { PicRegs.zero with pmode := 0x0200, celctl := 0x800C, coef4 := 0x444, coef5 := 0x444, sprmask := 0x0001 }
    (composed p [] [] [.tile .vdcSpr 1]).take 1 = [0xFFFFFF] ∧
      (composed { p with sprmask := 0 } [] [] [.tile .vdcSpr 1]).take 1 = [0x9F9F9F] := by decide +kernel

/-! ## Scheduler (V-SCH) and overlay transfer (V-OVL) -/

/-- V-SCH-1. -/
theorem test_run_14 :
    gives (exec (.run 14) (s0.setScript { Script.none with tiles := [[], [], [], [], []], renders := [rowsOf []] }))
      (fun t => t.timing.hphase == .active && t.timing.hcnt == 8 && t.timing.hscnt == 1 && t.timing.now == 14 &&
        t.rc.line == 1 && t.out.rows == [(0, [0, 0, 0, 0])] && t.out.width == 4) = true := by decide +kernel

/-- V-SCH-2. -/
theorem test_run_chunks :
    gives (exec (.run 4) (s0.setTiming { s0.timing with hcnt := 5 }))
      (fun t => t.timing.hcnt == 1 && t.timing.hscnt == 2) = true := by decide +kernel

/-- V-SCH-6 at 12, V-SCH-7 at 12. -/
theorem test_catch_up :
    (gives (perform (.read 12 0x300 .half) s0) (fun t => t.reply == .word 0x0001) &&
      gives (perform (.read 12 0x300 .half) ((State.afterReset { d50 with rasterIncAt := .entryActive }).setExtcnt none))
        fun t => t.reply == .word 0x0000) = true := by decide +kernel

/-- V-SCH-8. -/
theorem test_raster_262_folds :
    gives (exec (.run 1) (s0.setTiming { s0.timing with raster := 262, hphase := .part3, hcnt := 1 }))
      (fun t => t.timing.raster == 0 && t.out.frames == 1 && t.timing.hphase == .part4) = true := by decide +kernel

/-- V-SCH-5's first frame boundary, from its last cycle: interlace toggles ODD. -/
theorem test_interlace :
    gives (exec (.run 1)
        ((s0.setTiming { s0.timing with raster := 261, hphase := .part3, hcnt := 1 }).setPic { s0.pic with pmode := 0x0002 }))
      (fun t => t.timing.odd && t.out.interlace && t.out.frames == 1 && t.out.height == 2) = true := by decide +kernel

/-- V-SCH-9. -/
theorem test_tile_advance :
    let s := (State.afterReset { d50 with div := ⟨4, 4⟩ }).setScript { Script.none with tiles := [[.tile .vdcBg 7]] }
    let t := tileAdvance 6 (s.setTiming { s.timing with divrem := 3 })
    t.calls.head? = some (.tileRun 2 true) ∧ t.timing.divrem = 1 ∧ t.line.tbuf.head? = some (.tile .vdcBg 7) := by
  decide +kernel

/-- V-SCH-13 and program P2's interrupt: RASTER_PEND only with OVL_CTL[1]. -/
theorem test_raster_interrupt :
    let s := s0.setOvl { s0.ovl with rirqLine := 1 }
    (gives (exec (.run 12) s) (fun t => !t.pend.raster) &&
      gives (exec (.run 12) (s.setOvl { s.ovl with ctl := 0x0002 })) fun t =>
        t.pend.raster && t.lastIrq && t.calls.contains (.setIrq true)) = true := by decide +kernel

/-- V-OVL-1. -/
theorem test_overlay_block :
    let s := (s0.setOvl { ctl := 1, addr := 0x100, blocks := 2, rirqLine := 0 }).setScript { Script.none with blocks := [0x40], rasters := [[]] }
    let t := enterActive (s.setTiming { s.timing with raster := 1 })
    t.ovl.addr = 0x140 ∧ t.ovl.blocks = 1 ∧ t.ovl.ctl = 1 ∧
      t.calls.take 2 = [.ovlFetchRaster 1 0, .ovlDecodeBlock false 0x100] := by decide +kernel

/-- V-OVL-3 and V-OVL-2: the last block stops the transfer; no call on a line that is not visible. -/
theorem test_overlay_last_block :
    let s := (s0.setOvl { ctl := 1, addr := 0x140, blocks := 1, rirqLine := 0 }).setScript { Script.none with blocks := [0x40], rasters := [[]] }
    (enterActive s).ovl = { ctl := 0, addr := 0x180, blocks := 0, rirqLine := 0 } ∧
      (enterActive (s.setTiming { s.timing with raster := 2 })).calls = s.calls := by decide +kernel

/-! ## Handshake (V-DMA) -/

/-- V-DMA-1: both bytes. -/
theorem test_real_dma :
    gives (exec (.run 12)
        (withBus (receiving 2 1) [true, false, false, false, true, false, true, true, false, false, false, true, false, true]
          [0x34, 0x12]))
      (fun t => t.kram == [(0x200, 0x34), (0x201, 0x12)] && t.dma.addr == 0x101 && t.dma.size == 0 && !t.scsi.recvAct &&
        t.pend.dma && t.lastIrq && !t.scsi.hsAck) = true := by decide +kernel

/-- V-DMA-2, its third tick: the phase changed. -/
theorem test_phase_mismatch :
    let s := (receiving 3 1).setDma { (receiving 3 1).dma with ff := true, lo := 0x34 }
    let t := handshakeTick (withBus s [true, false, false, true, true] [])
    t.pend.phase = true ∧ t.scsi.recvAct = false ∧ t.dma.ff = false ∧ t.dma.size = 3 ∧ t.kram = [] := by decide +kernel

/-- V-DMA-4 and V-DMA-5, their first tick. -/
theorem test_dma_counter_corners :
    let tick := fun n => handshakeTick (withBus (receiving n 1) [true, false, false, false, true] [0x77])
    (tick 1).dma.size = 0 ∧ (tick 1).pend.dma = true ∧ (tick 1).dma.ff = false ∧ (tick 1).kram = [] ∧
      (tick 0).dma.size = 0 ∧ (tick 0).scsi.recvAct = true ∧ (tick 0).pend.dma = false ∧ (tick 0).dma.ff = true := by
  decide +kernel

/-- V-DMA-6: the first tick, then the SACK read. -/
theorem test_pseudo_dma :
    let s := handshakeTick (withBus (receiving 2 0) [true, false, false, false, true] [0x3C])
    (s.scsi.scache == 0x3C && s.scsi.drq && !s.scsi.hsAck &&
      gives (exec .rdSackLo s) fun t => t.reply == .word 0x003C && !t.scsi.drq && t.scsi.hsAck &&
        t.calls.head? == some (.busSet .ack true)) = true := by decide +kernel

/-- V-DMA-8. -/
theorem test_send :
    (gives (exec (.wrSstatLo 0) (s0.setScsi { s0.scsi with smode := 2 })) (fun t => t.scsi.sendAct && t.scsi.drq) &&
      gives (exec (.wrSdataLo 0x00A5) (s0.setScsi { s0.scsi with smode := 2, sendAct := true, drq := true })) fun t =>
        t.scsi.sout == 0xA5 && !t.scsi.drq && t.calls == s0.calls &&
          (handshakeTick (withBus t [true, false, false, false, false] [])).calls.take 2 ==
            [.busSet .ack true, .busSetData 0xA5]) = true := by decide +kernel

/-- V-DMA-9, V-DMA-10. -/
theorem test_stop_and_no_start :
    let s := receiving 1 1
    (gives (exec (.wrSmodeLo 0) (s.setScsi { s.scsi with hsAck := true, drq := true })) (fun t =>
        !t.scsi.recvAct && !t.scsi.drq && !t.scsi.hsAck && t.calls.head? == some (.busSet .ack false) && !t.pend.dma) &&
      gives (exec (.wrSrstLo 0) s0) fun t => !t.scsi.recvAct) = true := by decide +kernel

/-- V-DMA-11. -/
theorem test_command_lines :
    (gives (exec (.wrScmdLo 0x000C) s0) (fun t =>
        t.scsi.scmd == 0x0C && t.calls.take 2 == [.busSet .sel true, .busSet .bsy true]) &&
      gives (exec (.wrScmdLo 0x00FF) s0) fun t => t.scsi.scmd == 0x9F) = true := by decide +kernel

/-- V-DMA-12, V-DMA-13. -/
theorem test_bus_status :
    (gives (exec .rdSbusLo (withBus s0 [false, true, true, false, false, true, false] [])) (fun t => t.reply == .word 0x0064) &&
      gives (exec .rdSstatLo
        (withBus (s0.setScsi { s0.scsi with drq := true, sphase := 1 }) [false, false, true, false, false] []))
        fun t => t.reply == .word 0x0048) = true := by decide +kernel

/-- V-DMA-14, V-DMA-16. -/
theorem test_srst_read_and_driven_data :
    (gives (exec .rdSrstLo (s0.setPend { s0.pend with phase := true })) (fun t => t.reply == .word 0 && !t.pend.phase) &&
      gives (exec (.wrSdataLo 0x00A5) (s0.setScsi { s0.scsi with scmd := 1 })) fun t =>
        t.calls.head? == some (.busSetData 0xA5)) = true := by decide +kernel

/-! ## KRAM, interrupts, playback, tables, snapshot (V-KR, V-IRQ, V-PLAY, V-MP, V-BG, V-SNAP) -/

/-- V-KR-1, V-KR-6: the cursor's step is signed and wraps. -/
theorem test_kram_write :
    (gives (exec (.wrKramdataLo 0xBEEF) (s0.setKctl { s0.kctl with wa := 0x0FF00000 })) (fun t =>
        memRead t.kram false 0 == 0xBEEF && t.kctl.wa == 0x0FF3FFFC) &&
      gives (exec (.wrKramdataLo 0) (s0.setKctl { s0.kctl with wa := 0x0007FFFF })) fun t => t.kctl.wa == 0x00040000) =
        true := by decide +kernel

/-- V-KR-2, V-KR-7. -/
theorem test_kram_read :
    (gives (exec .rdKramdataLo ((s0.setKctl { s0.kctl with ra := 0x00080005 }).setKram (memWrite [] false 5 0x1111)))
        (fun t => t.reply == .word 0x1111 && t.kctl.ra == 0x00080007) &&
      gives (exec (.wrKramdataHi 0x1234) s0) fun t => t.kram == [] && t.kctl == s0.kctl) = true := by decide +kernel

/-- V-KR-4: BANK_CPU; V-KR-8: the mask of PAGE. -/
theorem test_page :
    (gives (exec .rdKramdataLo ((s0.setKctl { ra := 0, wa := 0, page := 0x10 }).setKram (memWrite [] false 0 1)))
        (fun t => t.reply == .word 0) &&
      gives (exec (.wrPageHi 0xFFFF) (s0.setKctl { s0.kctl with page := 0x11 })) fun t => t.kctl.page == 0x01010011) =
        true := by decide +kernel

/-- V-IRQ-1, V-IRQ-2. -/
theorem test_status_clears :
    (gives (exec .rdKstat ((s0.setPend { s0.pend with dma := true }).setLastIrq true)) (fun t =>
        t.reply == .word 0x0021 && t.pend == Pending.zero && t.calls.head? == some (.setIrq false)) &&
      gives (exec .rdKstat (s0.setPend { s0.pend with raster := true, phase := true })) fun t => t.reply == .word 0x002A) =
        true := by decide +kernel

/-- V-IRQ-3. -/
theorem test_external_event :
    let s := (s0.setExtcnt (some 1)).setScript { Script.none with services := [⟨true, none⟩] }
    gives (exec (.run 1) s) (fun t => t.pend.subch && t.lastIrq && t.extcnt == none) = true := by decide +kernel

/-- V-IRQ-4; V-IRQ-5's ADSTAT read. -/
theorem test_playback_flags :
    (gives (exec (.wrAdctlLo 0x0001) (s0.setPlay { s0.play with flags := 1 })) (fun t => t.lastIrq) &&
      gives (exec .rdAdstatLo ((s0.setPlay { s0.play with flags := 5, ctl := 5 }).setLastIrq true)) fun t =>
        t.reply == .word 5 && t.play.flags == 0 && !t.lastIrq) = true := by decide +kernel

/-- V-PLAY-1, V-PLAY-3. -/
theorem test_playfetch :
    (gives (exec (.playfetch .ch0)
        ((s0.setPlay { s0.play with ctl := 0x11, play0 := 0x10, end0 := 0x10 }).setKram (memWrite [] false 0x10 0xABCD)))
        (fun t => t.reply == .word 0xABCD && t.play.flags == 1 && t.play.play0 == 0x11 && t.lastIrq) &&
      gives (exec (.playfetch .ch1) (s0.setPlay { s0.play with ctl := 0x20, play1 := 0x200, end1 := 0x200, inter1 := 0x200 }))
        fun t => t.play.flags == 0xC && t.play.play1 == 0x201 && !t.lastIrq) = true := by decide +kernel

/-- V-PLAY-4 and V-PLAY-2. -/
theorem test_playfetch_wraps :
    (gives (exec (.playfetch .ch0) (s0.setPlay { s0.play with ctl := 0x10, play0 := 0x3FFFF })) (fun t =>
        t.play.play0 == 0 && t.play.flags == 0) &&
      gives (exec (.playfetch .ch0) (s0.setPlay { s0.play with ctl := 1 })) fun t => t.reply == .word 0) = true := by
  decide +kernel

/-- V-MP-1, V-MP-2. -/
theorem test_microprogram :
    (gives (exec (.wrMpdataLo 9) (s0.setMp { s0.mp with addr := 15 })) (fun t =>
        mprogGet t.mp.prog 15 == 9 && t.mp.addr == 0) &&
      gives (exec .rdMpdataLo (s0.setMp { s0.mp with addr := 15 })) fun t => t.mp.addr == 15) = true := by decide +kernel

/-- V-BG-1, V-BG-3. -/
theorem test_background_masks :
    (gives (exec (.wrScrx0Lo 0xFFFF) s0) (fun t => t.bg.scrx0 == 0x7FF) &&
      gives (exec (.wrScrx1Lo 0xFFFF) s0) (fun t => t.bg.scrx1 == 0x3FF) &&
      gives (exec (.wrBat0Lo 0xFFFF) s0) (fun t => t.bg.bat0 == 0x1FF) &&
      gives (exec (.wrBgmodeLo 0xFFFF) s0) fun t => t.bg.mode == 0xFFFF) = true := by decide +kernel

/-- V-SNAP-2. -/
theorem test_restore_clamps :
    let x := { s0.toSnapshot with timing := { s0.timing with raster := 300, hcnt := 100, hscnt := 0 } }
    gives (exec (.restore x) s0) (fun t => t.timing.raster == 261 && t.timing.hcnt == 8 && t.timing.hscnt == 1 &&
      pcacheGet t.pcache 700 == 0 && t.timing.now == 0) = true := by decide +kernel

/-- RESET keeps KRAM (70_reset_and_hazards.md R592) and clears the rest. -/
theorem test_reset_keeps_kram :
    gives (exec (.reset 7) ((s0.setKram (memWrite [] true 3 0x55AA)).setCar 9)) (fun t =>
      t.car == 0 && t.timing.now == 7 && memRead t.kram true 3 == 0x55AA) = true := by decide +kernel

/-- SAVE returns the stored fields and changes nothing. -/
theorem test_save :
    gives (exec .save (s0.setCar 9)) (fun t =>
      match t.reply with
      | .snapshot x => x.car == 9 && x.timing.hcnt == 8 && t.car == 9
      | _ => false) = true := by decide +kernel

/-- The first request after reset is run (30_encoding.md R141). -/
theorem test_first_request :
    (gives (step (State.reset.withFetchWord 24 0x13800D)) (fun t => t.requests == []) &&
      gives (step (State.reset.withFetchWord 24 0x0EC057)) fun t => t.reply == .word 0) = true := by decide +kernel

/-! ## Witnesses: states and operands that meet the hypotheses of the statements -/

theorem witness_DecodeOfEncodeIsTheInstruction :
    (Instr.wrKUnknown true 0x7F 0xFFFF).wf = true ∧ (Instr.rdCUnknown 0x16).wf = true ∧ (Instr.wrCar 0).wf = true := by
  decide

theorem witness_DecodeSelectsTheLongestMatchingMask :
    (keyCmd 0x6FFFFF).toNat ≤ 6 ∧ (Instr.playfetch .ch0).row.fits 0x6FFFFF = true ∧ 7 ≤ (keyCmd 0x700000).toNat ∧
      (Instr.rdCstat).row.fits 0x0B0000 = true ∧ (Instr.rdCUnknown 0).row.fits 0x0B0000 = true := by decide +kernel

theorem witness_RequestKeyHoldsTheAccessFields :
    (2047 : Nat).testBit 2 = true ∧ (0x304 : Nat).testBit 2 = true ∧ 0x304 / 256 % 8 = 3 ∧ 0x606 / 256 % 8 = 6 ∧
      (0x606 : Nat).testBit 2 = true ∧ (0x603 : Nat).testBit 2 = false := by decide

/-- Every premise of the first clause together: a write waiting at NOW, decoded and executed. -/
theorem witness_StepRunsTheDecodedInstruction :
    ∃ (s s1 t : State) (r : Request) (i : Instr),
      s.requests = [r] ∧ catchUp r (s.setRequests []) = .ok s1 ∧ decode (requestKey s1 r) (requestArgs r) = .ok i ∧
        i.wf = true ∧ exec i s1 = .next t :=
  ⟨s0.setRequests [.write 0 0x300 .half 3], s0, _, .write 0 0x300 .half 3, .wrCar 3, rfl, rfl, rfl, rfl, rfl⟩

theorem witness_StaleAndReservedRequestsAreRefused :
    ((s0.setTiming { s0.timing with now := 1 }).setRequests [.read 0 0 .byte]).requests = [.read 0 0 .byte] ∧
      0 < (s0.setTiming { s0.timing with now := 1 }).timing.now ∧
      (s0.setRequests [.reserved 8]).requests = [.reserved 8] := ⟨rfl, by decide, rfl⟩

theorem witness_EveryOtherRequestIsPerformed :
    (s0.setRequests [.read 0 0x300 .half]).requests = [.read 0 0x300 .half] ∧
      (∀ j, Request.read 0 0x300 .half ≠ .reserved j) ∧
      ∀ t, requestTime (.read 0 0x300 .half) = some t → s0.timing.now ≤ t :=
  ⟨rfl, nofun, fun _ _ => Nat.zero_le _⟩

theorem witness_ByteAccessIsOneSplitAccess :
    (∃ u, perform (.read 0 (2 * (0x301 / 2)) .half) s0 = .next u) ∧
      ∃ e, perform (.read 0 (2 * (0x301 / 2)) .half) (s0.setTiming { s0.timing with now := 1 }) = .refused e :=
  ⟨⟨_, rfl⟩, ⟨_, rfl⟩⟩

theorem witness_OtherAddressBitsAreIgnored :
    0x304 / 256 % 8 = 0xBFD / 256 % 8 ∧ 0x304 / 2 % 4 = 0xBFD / 2 % 4 := by decide

theorem witness_ModeWriteStopsTheTransfer :
    (0x0002 : Word).getLsbD 1 = true ∧ (0xFFFD : Word).getLsbD 1 = false := by decide

theorem witness_TransferStartsAndStatusReset :
    (receiving 2 1).scsi.smode.getLsbD 1 = true ∧ s0.scsi.smode.getLsbD 1 = false := by decide +kernel

/-- The read clocks only when all three hold; real DMA is one way not to. -/
theorem witness_AcknowledgeReadClocksThePseudoTransfer :
    let s := (receiving 2 0).setScsi { (receiving 2 0).scsi with drq := true }
    (s.scsi.recvAct = true ∧ s.dma.ctl.getLsbD 0 = false ∧ s.scsi.drq = true) ∧
      ¬((receiving 2 1).scsi.recvAct = true ∧ (receiving 2 1).dma.ctl.getLsbD 0 = false ∧
        (receiving 2 1).scsi.drq = true) := by decide +kernel

theorem witness_masks : MasksHold s0 :=
  ⟨rfl, rfl, rfl, rfl, rfl, rfl, rfl, rfl⟩

theorem witness_mirror : PaletteMirrored s0 := fun i => by
  have h : ∀ j, pcacheGet s0.pcache j = 0 := pcacheGet_pcacheZero
  have e : expand (palGet s0.palette.pal i) = 0 := by
    show expand (palGet Palette.zero.pal i) = 0
    simp [palGet, Palette.zero, expand]
  exact ⟨(h _).trans e.symm, (h _).trans e.symm⟩

theorem witness_ranks : RanksResolved s0 := by
  show s0.rcd.rank = resolveRanks s0.rc.pic
  decide +kernel

theorem car_completes (s : State) : ∃ t, exec (.wrCar 1) s = .next t :=
  ⟨reevalIrq ((s.setCar (carOf 1)).setReply .nothing), rfl⟩

theorem witness_counters : CountersHold s0 := by
  refine ⟨?_, ?_, ?_, ?_, ?_, ?_, ?_⟩ <;> decide +kernel

theorem witness_buffers : BuffersProper s0 ∧ RowsSorted s0 ∧ KramCanonical s0 := by
  refine ⟨⟨rfl, ⟨rfl, ?_⟩, ⟨rfl, ?_⟩, ⟨rfl, ?_⟩, ⟨rfl, ?_⟩, ⟨rfl, ?_⟩⟩, ⟨?_, ?_⟩, rfl⟩ <;> decide +kernel

/-- Two words written, in both banks, and a state of that KRAM. -/
theorem witness_KramDataWriteStoresOneWord :
    (s0.setKram (memWrite (memWrite [] true 0x3FFFF 0xFFFF) false 0 1)).kram.wf = true := by decide +kernel

theorem witness_PlayFetchTakesTheNextSample :
    (0x0030 : Word).getLsbD 4 = true ∧ (0x0030 : Word).getLsbD 5 = true ∧ s0.play.ctl.getLsbD 4 = false ∧
      s0.play.ctl.getLsbD 5 = false := by decide +kernel

theorem witness_RunIsTheChunkLoop :
    1 ≤ s0.timing.hcnt ∧ 1 ≤ s0.timing.hscnt ∧ s0.extcnt ≠ some 0 ∧ (s0.setExtcnt (some 1)).extcnt ≠ some 0 := by
  decide +kernel

/-- A snapshot with canonical KRAM and proper rows, an output row inside the picture and one outside it. -/
theorem witness_RestoreMasksClampsAndRederives :
    let x := { s0.toSnapshot with out := { s0.out with rows := [(0, [1, 2, 3, 4]), (9, [])] } }
    x.kram.wf = true ∧ RowProper s0.cfg x.line.obuf ∧ RowProper s0.cfg x.line.bgrows.bg0 ∧
      RowProper s0.cfg x.line.bgrows.bg1 ∧ RowProper s0.cfg x.line.bgrows.bg2 ∧ RowProper s0.cfg x.line.bgrows.bg3 ∧
      0 < s0.cfg.visibleLines ∧ ¬9 < s0.cfg.visibleLines :=
  ⟨rfl, witness_buffers.1.2.1, witness_buffers.1.2.2.1, witness_buffers.1.2.2.2.1, witness_buffers.1.2.2.2.2.1,
    witness_buffers.1.2.2.2.2.2, by decide +kernel, by decide +kernel⟩

/-- Every premise holds right after reset. -/
theorem witness_SaveThenRestoreIsLossless :
    (MasksHold s0 ∧ PaletteMirrored s0 ∧ RanksResolved s0 ∧ KramCanonical s0 ∧ BuffersProper s0 ∧ RowsSorted s0) ∧
      s0.timing.raster.toNat < lineCount s0.pic.pmode ∧ s0.rc.line.toNat < lineCount s0.pic.pmode ∧ 1 ≤ s0.timing.hcnt ∧
      s0.timing.hcnt ≤ s0.cfg.duration s0.timing.hphase (dotClock s0.pic.pmode) (line263 s0.pic.pmode) ∧
      1 ≤ s0.timing.hscnt ∧ s0.timing.hscnt ≤ s0.cfg.hsEvery ∧ s0.timing.divrem < s0.cfg.divOf (dotClock s0.pic.pmode) ∧
      s0.line.tpos ≤ s0.cfg.wMax ∧ s0.rcd.pcache = s0.pcache := by
  refine ⟨⟨witness_masks, witness_mirror, witness_ranks, witness_buffers.2.2, witness_buffers.1, witness_buffers.2.1⟩, ?_⟩
  refine ⟨?_, ?_, ?_, ?_, ?_, ?_, ?_, ?_, rfl⟩ <;> decide +kernel

/-- The last line of a frame of 262, the one before it, and line 261 of a frame of 263. -/
theorem witness_LineStepCountsInterruptsAndEndsTheFrame :
    262 ≤ (261 : BitVec 9).toNat + 1 ∧ ¬262 ≤ (260 : BitVec 9).toNat + 1 ∧ ¬263 ≤ (261 : BitVec 9).toNat + 1 := by decide

theorem witness_EveryFrameVisitsEveryLineOnce : s0.timing.hphase = .active ∧ s0.timing.raster = 0 := ⟨rfl, rfl⟩

theorem witness_PhaseEntrySetsItsDuration :
    s0.timing.hphase = .active ∧ (setPhase .part1 s0).timing.hphase = .part1 ∧
      (setPhase .part3 s0).timing.hphase = .part3 ∧ (setPhase .part4 s0).timing.hphase = .part4 := ⟨rfl, rfl, rfl, rfl⟩

/-- Lines 0 and 1 are shown under D50, line 2 is not. -/
theorem witness_RowsAreComposedAtTheEndOfActive :
    s0.timing.hphase = .active ∧ (s0.cfg.firstVisible ≤ 0 ∧ 0 < s0.cfg.firstVisible + s0.cfg.visibleLines) ∧
      1 < s0.cfg.firstVisible + s0.cfg.visibleLines ∧ ¬2 < s0.cfg.firstVisible + s0.cfg.visibleLines := by decide +kernel

/-- Each clause: a line not shown; shown with no overlay, with an overlay with no block left, with its last block. -/
theorem witness_EnteringActiveLatchesThePicture :
    (s0.cfg.firstVisible ≤ s0.timing.raster.toNat ∧
        s0.timing.raster.toNat < s0.cfg.firstVisible + s0.cfg.visibleLines) ∧
      ¬(2 : BitVec 9).toNat < s0.cfg.firstVisible + s0.cfg.visibleLines ∧
      s0.ovl.ctl.getLsbD 0 = false ∧
      ((s0.setOvl { s0.ovl with ctl := 1 }).ovl.ctl.getLsbD 0 = true ∧ (s0.setOvl { s0.ovl with ctl := 1 }).ovl.blocks = 0) ∧
      ((s0.setOvl { s0.ovl with ctl := 1, blocks := 1 }).ovl.ctl.getLsbD 0 = true ∧
        (s0.setOvl { s0.ovl with ctl := 1, blocks := 1 }).ovl.blocks ≠ 0) ∧
      RowProper s0.cfg [.idx 1, .transparent, .direct 0, .idx 255] ∧ ¬RowProper s0.cfg [.idx 0, .transparent, .direct 0, .idx 255] :=
  ⟨by decide +kernel, by decide +kernel, rfl, by decide +kernel, by decide +kernel, ⟨rfl, by decide⟩, fun h => h.2 (by decide)⟩

/-- Both answers: the phase of V-DMA-1 and that of V-DMA-2. -/
theorem witness_PhaseMismatchStopsTheTransfer :
    ((receiving 2 1).scsi.recvAct || (receiving 2 1).scsi.sendAct) = true ∧
      (false = (receiving 2 1).scsi.sphase.getLsbD 2 ∧ false = (receiving 2 1).scsi.sphase.getLsbD 1 ∧
        true = (receiving 2 1).scsi.sphase.getLsbD 0) ∧
      ¬true = (receiving 2 1).scsi.sphase.getLsbD 1 ∧ s0.scsi.recvAct = false ∧ s0.scsi.sendAct = false := by
  decide +kernel

theorem witness_RealDmaPacksAndCountsOneByte :
    (receiving 0 1).dma.ff = false ∧ (receiving 0 1).dma.size = 0 ∧ (receiving 1 1).dma.size = 1 ∧
      1 < (receiving 2 1).dma.size.toNat ∧ ({ s0.dma with ff := true }).ff = true := by decide +kernel

/-- V-DMA-1 meets every premise, with n = 1 and nothing queued behind. -/
theorem witness_RealDmaReceiveWritesNWords :
    let s := withBus (receiving 2 1)
      [true, false, false, false, true, false, true, true, false, false, false, true, false, true] [0x34, 0x12]
    ([0x34, 0x12] : List Byte).length = 2 * 1 ∧ s.dma.size.toNat = 2 * 1 ∧ s.dma.ff = false ∧
      s.dma.ctl.getLsbD 0 = true ∧ s.scsi.recvAct = true ∧ s.scsi.hsAck = false ∧ s.scsi.scmd.getLsbD 4 = false ∧
      s.kram.wf = true ∧ s.script.bytes = [0x34, 0x12] ++ [] ∧
      s.script.levels =
        (List.replicate (2 * 1)
          [true, false, s.scsi.sphase.getLsbD 2, s.scsi.sphase.getLsbD 1, s.scsi.sphase.getLsbD 0, false,
            true]).flatten ++ [] := by decide +kernel

/-- The three clauses' premises: a release with either queued ACK answer, a send, a pseudo receive. -/
theorem witness_HandshakeReleasesSendsAndPaces :
    let a := withBus (s0.setScsi { s0.scsi with hsAck := true }) [false, true] []
    let b := withBus (s0.setScsi { s0.scsi with sendAct := true }) [true, false, false, false, false] []
    let c := withBus (receiving 2 0) [true, false, false, false, true] [0x3C]
    (a.scsi.hsAck = true ∧ a.script.levels = [false, true] ∧
        (withBus (s0.setScsi { s0.scsi with hsAck := true }) [false, false] []).script.levels = [false, false]) ∧
      (b.scsi.sendAct = true ∧ b.scsi.recvAct = false ∧ b.scsi.hsAck = false ∧ b.scsi.scmd.getLsbD 4 = false ∧
        b.scsi.drq = false ∧ b.script.levels =
          [true, false, b.scsi.sphase.getLsbD 2, b.scsi.sphase.getLsbD 1, b.scsi.sphase.getLsbD 0]) ∧
      c.scsi.recvAct = true ∧ c.dma.ctl.getLsbD 0 = false ∧ c.scsi.hsAck = false ∧ c.scsi.scmd.getLsbD 4 = false ∧
        c.script.bytes = [0x3C] ∧ c.script.levels =
          [true, false, c.scsi.sphase.getLsbD 2, c.scsi.sphase.getLsbD 1, c.scsi.sphase.getLsbD 0] := by decide +kernel

/-- The premises of both frames of the host requests: a register write, which is none of the instructions they exclude. -/
theorem witness_OnlyRunResetAndRestoreReachTheDisplay :
    (∃ t, exec (.wrCar 1) s0 = .next t) ∧ (∀ n, Instr.wrCar 1 ≠ .run n) ∧ (∀ n, Instr.wrCar 1 ≠ .reset n) ∧
      ∀ x, Instr.wrCar 1 ≠ .restore x :=
  ⟨car_completes s0, fun _ => Instr.noConfusion, fun _ => Instr.noConfusion, fun _ => Instr.noConfusion⟩

theorem witness_OnlyTheirOwnAccessesChangeSharedState :
    (∃ t, exec (.wrCar 1) (s0.setPend { s0.pend with dma := true, phase := true }) = .next t) ∧
      (s0.setPend { s0.pend with dma := true, phase := true }).pend.phase = true ∧
      (∀ v, Instr.wrCar 1 ≠ .wrPalwdata v) ∧ (∀ v, Instr.wrCar 1 ≠ .wrKramdataLo v) ∧
      (∀ v, Instr.wrCar 1 ≠ .wrSdataLo v) ∧ (∀ v, Instr.wrCar 1 ≠ .wrSmodeLo v) ∧ (∀ v, Instr.wrCar 1 ≠ .wrSstatLo v) ∧
      (∀ v, Instr.wrCar 1 ≠ .wrSrstLo v) ∧ Instr.wrCar 1 ≠ .rdSackLo ∧ Instr.wrCar 1 ≠ .rdKstat ∧
      Instr.wrCar 1 ≠ .rdSrstLo ∧ (∀ n, Instr.wrCar 1 ≠ .reset n) ∧ (∀ x, Instr.wrCar 1 ≠ .restore x) ∧
      ∀ n, Instr.wrCar 1 ≠ .run n := by
  refine ⟨car_completes _, rfl, ?_⟩
  refine ⟨?_, ?_, ?_, ?_, ?_, ?_, ?_, ?_, ?_, ?_, ?_, ?_⟩ <;> intros <;> exact Instr.noConfusion

/-- A step from a state that meets every invariant. -/
theorem witness_EveryStepKeeps :
    (KramCanonical s0 ∧ PaletteMirrored s0 ∧ MasksHold s0 ∧ CountersHold s0 ∧ BuffersProper s0 ∧ RowsSorted s0 ∧
        RanksResolved s0) ∧ ∃ t, step s0 = .next t :=
  ⟨⟨witness_buffers.2.2, witness_mirror, witness_masks, witness_counters, witness_buffers.1, witness_buffers.2.1,
    witness_ranks⟩, ⟨_, rfl⟩⟩

/-- Equal raw priorities are ordered by the layer's index, unequal ones by value. -/
theorem witness_RanksAreDenseAndOrdered :
    let p := { PicRegs.zero with pmode := 0x4C00, prio0 := 0x0011, prio1 := 0x0000 }
    enabled p .bg2 = false ∧ enabled p .bg0 = true ∧ enabled p .bg1 = true ∧ enabled p .ovl = true ∧
      (rawPriority p .bg0).toNat = (rawPriority p .bg1).toNat ∧ layerIndex .bg0 < layerIndex .bg1 ∧
      (rawPriority p .ovl).toNat < (rawPriority p .bg0).toNat := by decide +kernel

theorem witness_PriorityTableProperties :
    (8 : Nat) ≤ 8 ∧ (0 : Nat) ≤ 8 ∧ (priorityTable 0 8 3).hind = some .b ∧ (priorityTable 7 8 3).mid = some .t := by
  decide

/-- BG0 alone; and no layer at all. -/
theorem witness_ALoneLayerIsCopiedOverTheFallback :
    let p := { PicRegs.zero with pmode := 0x0400 }
    rank (resolveRanks p) .bg0 ≠ 0 ∧ (∀ m, m ≠ Layer.bg0 → rank (resolveRanks p) m = 0) ∧ p.celctl.getLsbD 15 = false ∧
      ∀ m, rank (resolveRanks PicRegs.zero) m = 0 := by
  refine ⟨by decide +kernel, fun m h => ?_, by decide +kernel, fun m => ?_⟩
  · cases m <;> first | exact absurd rfl h | decide +kernel
  · cases m <;> decide +kernel

theorem witness_ChromaKeyTestsTheThreeChannels :
    ((0x0010 : Word).extractLsb' 8 8).toNat < ((0x0010 : Word).extractLsb' 0 8).toNat ∧
      keyed { PicRegs.zero with keyy := 0x1010, keyu := 0x8080, keyv := 0x8080 } 0x108080 = true := by decide +kernel

end Sys2Proof.Tests
end

section
/-! What `exec` can do, as one inversion lemma with one form per shared operation, and from it the totality of `exec`
and `step` (00_scope.md R17). -/

namespace Sys2Proof.Machine

/-! ## The forms of an instruction's meaning -/

/-- The outcomes `exec` has in `s`: a read that changes nothing, a write that stores nothing, a masked store in a
controller or memory/DMA register, and one form for each instruction with an effect of its own. Only the last kind names
its instruction; the others stand for many. -/
inductive ExecForm (s : State) : Instr → Host.Outcome State Fault Refusal → Prop where
  | read {i : Instr} (r : Word) : ExecForm s i (answer r s)
  | inert {i : Instr} : ExecForm s i (complete s)
  | storeC {i : Instr} (r : CReg) (v : Word) : ExecForm s i (storeC r v s)
  | storeLo {i : Instr} (r : KReg) (v : Word) : ExecForm s i (storeLo r v s)
  | storeHi {i : Instr} (r : KReg) (v : Word) : ExecForm s i (storeHi r v s)
  | wrCar (v : Word) : ExecForm s (.wrCar v) (execWrCar v s)
  | wrPaladdr (v : Word) : ExecForm s (.wrPaladdr v) (execWrPaladdr v s)
  | wrPalwdata (v : Word) : ExecForm s (.wrPalwdata v) (execWrPalwdata v s)
  | wrKar (v : Word) : ExecForm s (.wrKar v) (execWrKar v s)
  | wrSdataLo (v : Word) : ExecForm s (.wrSdataLo v) (execWrSdataLo v s)
  | wrScmdLo (v : Word) : ExecForm s (.wrScmdLo v) (execWrScmdLo v s)
  | wrSmodeLo (v : Word) : ExecForm s (.wrSmodeLo v) (execWrSmodeLo v s)
  | wrSphaseLo (v : Word) : ExecForm s (.wrSphaseLo v) (execWrSphaseLo v s)
  | wrSstatLo (v : Word) : ExecForm s (.wrSstatLo v) (execWrSstatLo v s)
  | wrSrstLo (v : Word) : ExecForm s (.wrSrstLo v) (execWrSrstLo v s)
  | wrKramdataLo (v : Word) : ExecForm s (.wrKramdataLo v) (execWrKramdataLo v s)
  | wrMpdataLo (v : Word) : ExecForm s (.wrMpdataLo v) (execWrMpdataLo v s)
  | run (n : Nat) : ExecForm s (.run n) (execRun n s)
  | reset (t : Nat) : ExecForm s (.reset t) (execReset t s)
  | save : ExecForm s .save (execSave s)
  | restore (x : Snapshot) : ExecForm s (.restore x) (execRestore x s)
  | playfetch (c : Channel) : ExecForm s (.playfetch c) (execPlayfetch c s)
  | rdPalrdata : ExecForm s .rdPalrdata (execRdPalrdata s)
  | rdKstat : ExecForm s .rdKstat (execRdKstat s)
  | rdSdataLo : ExecForm s .rdSdataLo (execRdSdataLo s)
  | rdSbusLo : ExecForm s .rdSbusLo (execRdSbusLo s)
  | rdSstatLo : ExecForm s .rdSstatLo (execRdSstatLo s)
  | rdSrstLo : ExecForm s .rdSrstLo (execRdSrstLo s)
  | rdSackLo : ExecForm s .rdSackLo (execRdSackLo s)
  | rdKramdataLo : ExecForm s .rdKramdataLo (execRdKramdataLo s)
  | rdAdstatLo : ExecForm s .rdAdstatLo (execRdAdstatLo s)

/-- Every instruction's outcome has one of these forms. -/
theorem exec_form (i : Instr) (s : State) : ExecForm s i (exec i s) := by
  cases i with
  | rdCUnknown _ | rdKUnknown _ _ | rdNospace _ | rdCstat | rdPmode | rdPaladdr | rdPalwdata | rdPalofs0
    | rdPalofs1 | rdPalofs2 | rdPalofs3 | rdPrio0 | rdPrio1 | rdKeyy | rdKeyu | rdKeyv | rdFixcol | rdCelctl
    | rdSprmask | rdCoef0 | rdCoef1 | rdCoef2 | rdCoef3 | rdCoef4 | rdCoef5 | rdCHigh | rdSdataHi | rdScmdLo
    | rdScmdHi | rdSmodeLo | rdSmodeHi | rdSphaseLo | rdSphaseHi | rdSbusHi | rdSstatHi | rdSinLo | rdSinHi
    | rdSrstHi | rdSackHi | rdDmaaddrLo | rdDmaaddrHi | rdDmasizeLo | rdDmasizeHi | rdDmactlLo | rdDmactlHi
    | rdKramraLo | rdKramraHi | rdKramwaLo | rdKramwaHi | rdKramdataHi | rdPageLo | rdPageHi | rdMpaddrLo
    | rdMpaddrHi | rdMpdataLo | rdMpdataHi | rdMpctlLo | rdMpctlHi | rdBgendlessLo | rdBgendlessHi | rdBgmodeLo
    | rdBgmodeHi | rdBat0Lo | rdBat0Hi | rdBat1Lo | rdBat1Hi | rdBat2Lo | rdBat2Hi | rdBat3Lo | rdBat3Hi | rdCg0Lo
    | rdCg0Hi | rdCg1Lo | rdCg1Hi | rdCg2Lo | rdCg2Hi | rdCg3Lo | rdCg3Hi | rdSubbat0Lo | rdSubbat0Hi | rdSubbat1Lo
    | rdSubbat1Hi | rdSubbat2Lo | rdSubbat2Hi | rdSubbat3Lo | rdSubbat3Hi | rdSubcg0Lo | rdSubcg0Hi | rdSubcg1Lo
    | rdSubcg1Hi | rdSubcg2Lo | rdSubcg2Hi | rdSubcg3Lo | rdSubcg3Hi | rdScrx0Lo | rdScrx0Hi | rdScry0Lo | rdScry0Hi
    | rdScrx1Lo | rdScrx1Hi | rdScry1Lo | rdScry1Hi | rdScrx2Lo | rdScrx2Hi | rdScry2Lo | rdScry2Hi | rdScrx3Lo
    | rdScrx3Hi | rdScry3Lo | rdScry3Hi | rdAffaLo | rdAffaHi | rdAffbLo | rdAffbHi | rdAffcLo | rdAffcHi | rdAffdLo
    | rdAffdHi | rdCtrxLo | rdCtrxHi | rdCtryLo | rdCtryHi | rdBgsize0Lo | rdBgsize0Hi | rdBgsize1Lo | rdBgsize1Hi
    | rdBgsize2Lo | rdBgsize2Hi | rdBgsize3Lo | rdBgsize3Hi | rdOvlctlLo | rdOvlctlHi | rdOvladdrLo | rdOvladdrHi
    | rdOvlblocksLo | rdOvlblocksHi | rdRirqlineLo | rdRirqlineHi | rdAdctlLo | rdAdctlHi | rdPlay0Lo | rdPlay0Hi
    | rdEnd0Lo | rdEnd0Hi | rdInter0Lo | rdInter0Hi | rdAdstatHi | rdPlay1Lo | rdPlay1Hi | rdEnd1Lo | rdEnd1Hi
    | rdInter1Lo | rdInter1Hi => exact .read _
  | wrPalrdata _ | wrCHigh _ | wrCUnknown _ _ | wrSdataHi _ | wrScmdHi _ | wrSmodeHi _ | wrSphaseHi _ | wrSbusLo _
    | wrSbusHi _ | wrSstatHi _ | wrSinLo _ | wrSinHi _ | wrSrstHi _ | wrSackLo _ | wrSackHi _ | wrKramdataHi _
    | wrMpdataHi _ | wrAdstatLo _ | wrAdstatHi _ | wrKUnknown _ _ _ | wrNospace _ _ => exact .inert
  | wrPmode v | wrPalofs0 v | wrPalofs1 v | wrPalofs2 v | wrPalofs3 v | wrPrio0 v | wrPrio1 v | wrKeyy v
    | wrKeyu v | wrKeyv v | wrFixcol v | wrCelctl v | wrSprmask v | wrCoef0 v | wrCoef1 v | wrCoef2 v | wrCoef3 v
    | wrCoef4 v | wrCoef5 v => exact .storeC _ v
  | wrDmaaddrLo v | wrDmasizeLo v | wrDmactlLo v | wrKramraLo v | wrKramwaLo v | wrPageLo v | wrMpaddrLo v
    | wrMpctlLo v | wrBgendlessLo v | wrBgmodeLo v | wrBat0Lo v | wrBat1Lo v | wrBat2Lo v | wrBat3Lo v | wrCg0Lo v
    | wrCg1Lo v | wrCg2Lo v | wrCg3Lo v | wrSubbat0Lo v | wrSubbat1Lo v | wrSubbat2Lo v | wrSubbat3Lo v
    | wrSubcg0Lo v | wrSubcg1Lo v | wrSubcg2Lo v | wrSubcg3Lo v | wrScrx0Lo v | wrScry0Lo v | wrScrx1Lo v
    | wrScry1Lo v | wrScrx2Lo v | wrScry2Lo v | wrScrx3Lo v | wrScry3Lo v | wrAffaLo v | wrAffbLo v | wrAffcLo v
    | wrAffdLo v | wrCtrxLo v | wrCtryLo v | wrBgsize0Lo v | wrBgsize1Lo v | wrBgsize2Lo v | wrBgsize3Lo v
    | wrOvlctlLo v | wrOvladdrLo v | wrOvlblocksLo v | wrRirqlineLo v | wrAdctlLo v | wrPlay0Lo v | wrEnd0Lo v
    | wrInter0Lo v | wrPlay1Lo v | wrEnd1Lo v | wrInter1Lo v => exact .storeLo _ v
  | wrDmaaddrHi v | wrDmasizeHi v | wrDmactlHi v | wrKramraHi v | wrKramwaHi v | wrPageHi v | wrMpaddrHi v
    | wrMpctlHi v | wrBgendlessHi v | wrBgmodeHi v | wrBat0Hi v | wrBat1Hi v | wrBat2Hi v | wrBat3Hi v | wrCg0Hi v
    | wrCg1Hi v | wrCg2Hi v | wrCg3Hi v | wrSubbat0Hi v | wrSubbat1Hi v | wrSubbat2Hi v | wrSubbat3Hi v
    | wrSubcg0Hi v | wrSubcg1Hi v | wrSubcg2Hi v | wrSubcg3Hi v | wrScrx0Hi v | wrScry0Hi v | wrScrx1Hi v
    | wrScry1Hi v | wrScrx2Hi v | wrScry2Hi v | wrScrx3Hi v | wrScry3Hi v | wrAffaHi v | wrAffbHi v | wrAffcHi v
    | wrAffdHi v | wrCtrxHi v | wrCtryHi v | wrBgsize0Hi v | wrBgsize1Hi v | wrBgsize2Hi v | wrBgsize3Hi v
    | wrOvlctlHi v | wrOvladdrHi v | wrOvlblocksHi v | wrRirqlineHi v | wrAdctlHi v | wrPlay0Hi v | wrEnd0Hi v
    | wrInter0Hi v | wrPlay1Hi v | wrEnd1Hi v | wrInter1Hi v => exact .storeHi _ v
  | wrCar v => exact .wrCar v
  | wrPaladdr v => exact .wrPaladdr v
  | wrPalwdata v => exact .wrPalwdata v
  | wrKar v => exact .wrKar v
  | wrSdataLo v => exact .wrSdataLo v
  | wrScmdLo v => exact .wrScmdLo v
  | wrSmodeLo v => exact .wrSmodeLo v
  | wrSphaseLo v => exact .wrSphaseLo v
  | wrSstatLo v => exact .wrSstatLo v
  | wrSrstLo v => exact .wrSrstLo v
  | wrKramdataLo v => exact .wrKramdataLo v
  | wrMpdataLo v => exact .wrMpdataLo v
  | run n => exact .run n
  | reset t => exact .reset t
  | save => exact .save
  | restore x => exact .restore x
  | playfetch c => exact .playfetch c
  | rdPalrdata => exact .rdPalrdata
  | rdKstat => exact .rdKstat
  | rdSdataLo => exact .rdSdataLo
  | rdSbusLo => exact .rdSbusLo
  | rdSstatLo => exact .rdSstatLo
  | rdSrstLo => exact .rdSrstLo
  | rdSackLo => exact .rdSackLo
  | rdKramdataLo => exact .rdKramdataLo
  | rdAdstatLo => exact .rdAdstatLo

/-! ## Restored and reset states keep the parameters and the queue -/

@[simp] theorem doReset_cfg (t : Nat) (s : State) : (doReset t s).cfg = s.cfg := by simp [doReset]
@[simp] theorem doReset_requests (t : Nat) (s : State) : (doReset t s).requests = s.requests := by simp [doReset]
@[simp] theorem doRestore_cfg (x : Snapshot) (s : State) : (doRestore x s).cfg = s.cfg := by simp [doRestore]
@[simp] theorem doRestore_requests (x : Snapshot) (s : State) : (doRestore x s).requests = s.requests := by
  simp [doRestore]

/-! ## Every instruction completes -/

/-- `o` is a next state with IRQ re-evaluated (60_exceptions.md R551) and the parameters and waiting requests of `s`. -/
def CompletesFrom (s : State) (o : Host.Outcome State Fault Refusal) : Prop :=
  ∃ u, o = .next (reevalIrq u) ∧ u.cfg = s.cfg ∧ u.requests = s.requests

section
variable {s e : State}

theorem completesFrom_complete (hcfg : e.cfg = s.cfg) (hreq : e.requests = s.requests) :
    CompletesFrom s (complete e) :=
  ⟨_, complete_eq e, hcfg, hreq⟩

theorem completesFrom_answer (r : Word) (hcfg : e.cfg = s.cfg) (hreq : e.requests = s.requests) :
    CompletesFrom s (answer r e) :=
  ⟨_, answer_eq e r, hcfg, hreq⟩

end

/-- Whatever its form, an instruction completes. -/
theorem ExecForm.completesFrom {s : State} {i : Instr} {o : Host.Outcome State Fault Refusal} (h : ExecForm s i o) :
    CompletesFrom s o := by
  cases h with
  | read r => exact completesFrom_answer r rfl rfl
  | inert => exact completesFrom_complete rfl rfl
  | storeC r v | storeLo r v | storeHi r v => exact completesFrom_complete (by simp) (by simp)
  | wrCar v | wrPaladdr v | wrPalwdata v | wrKar v | wrScmdLo v | wrSphaseLo v | wrKramdataLo v | wrMpdataLo v =>
    exact completesFrom_complete (by simp) (by simp)
  | run n | reset t | restore x => exact completesFrom_complete (by simp) (by simp)
  | save => exact ⟨_, rfl, rfl, rfl⟩
  | rdPalrdata | rdKstat | rdSdataLo | rdSbusLo | rdSstatLo | rdSrstLo | rdKramdataLo | rdAdstatLo =>
    exact completesFrom_answer _ (by simp) (by simp)
  | wrSdataLo v => exact completesFrom_complete (by split <;> split <;> simp) (by split <;> split <;> simp)
  | wrSmodeLo v =>
    unfold execWrSmodeLo
    dsimp only
    split
    · exact completesFrom_complete (by simp) (by simp)
    · exact completesFrom_complete (by split <;> simp) (by split <;> simp)
  | wrSstatLo v =>
    unfold execWrSstatLo
    split <;> exact completesFrom_complete (by simp) (by simp)
  | wrSrstLo v =>
    unfold execWrSrstLo
    split <;> exact completesFrom_complete (by simp) (by simp)
  | rdSackLo =>
    unfold execRdSackLo
    split <;> exact completesFrom_answer _ (by simp) (by simp)
  | playfetch c =>
    unfold execPlayfetch
    split <;> exact completesFrom_answer _ (by simp) (by simp)

/-- `exec` is total: every instruction completes in every state, its parameters and waiting requests kept. -/
theorem exec_completesFrom (i : Instr) (s : State) : CompletesFrom s (exec i s) :=
  (exec_form i s).completesFrom

/-- After a re-evaluation the host knows the present level (10_state.md R75; 60_exceptions.md R551). -/
theorem irqTold_reevalIrq (s : State) : IrqTold (reevalIrq s) := by simp [IrqTold]

/-- Settles O8: every meaning ends in `reevalIrq`, and the level it sends is the OR of the five conditions. -/
theorem everyInstructionCompletesWithTheIrqLevelTold :
    Obligations.EveryInstructionCompletesWithTheIrqLevelTold := by
  unfold Obligations.EveryInstructionCompletesWithTheIrqLevelTold
  intro i s
  obtain ⟨u, hexec, -, -⟩ := exec_completesFrom i s
  exact ⟨reevalIrq u, hexec, irqTold_reevalIrq u⟩

/-! ## Every other request is performed -/

/-- CMD of a built key. The first step is by `trans`, for `Key` hides the append's width from `simp`. -/
theorem keyCmd_mkKey (cmd : BitVec 4) (size : Size) (space : BitVec 3) (port half lane : Bool) (sel : BitVec 7) :
    keyCmd (mkKey cmd size space port half lane sel) = cmd := by
  ext j hj
  refine (BitVec.getElem_extractLsb' _).trans ((BitVec.getLsbD_append ..).trans ?_)
  simp only [BitVec.getLsbD_append]
  interval_cases j <;> simp

/-- CMD 0..6 is a host request, so its key has a row (30_encoding.md R142, R152). -/
theorem decode_of_cmd_le {k : Key} (hk : (keyCmd k).toNat ≤ 6) (a : Args) : ∃ i, decode k a = .ok i := by
  interval_cases hc : (keyCmd k).toNat <;> simp [decode, hc]

/-- Only a reserved request has a CMD above 6 (30_encoding.md R141, R152). -/
theorem keyCmd_requestKey_le {r : Request} (hr : ∀ j, r ≠ .reserved j) (s : State) :
    (keyCmd (requestKey s r)).toNat ≤ 6 := by
  cases r with
  | reserved j => exact absurd rfl (hr j)
  | read | write => simp [requestKey, busKey, keyCmd_mkKey]
  | run | reset | save | restore | playfetch => simp [requestKey, hostKey, keyCmd_mkKey]

/-- A request that is not stale is caught up with, by running the scheduler some number of clocks
(46_host_operations.md R530, R537). -/
theorem catchUp_of_not_stale {r : Request} {s : State} (h : ∀ t, requestTime r = some t → s.timing.now ≤ t) :
    ∃ n, catchUp r s = .ok (runClocks n s) := by
  unfold catchUp
  cases ht : requestTime r with
  | none => exact ⟨0, rfl⟩
  | some t => exact ⟨t - s.timing.now, if_neg (Nat.not_lt.2 (h t ht))⟩

@[simp] theorem narrowReply_cfg (r : Request) (s : State) : (narrowReply r s).cfg = s.cfg := by
  unfold narrowReply; split <;> rfl
@[simp] theorem narrowReply_requests (r : Request) (s : State) : (narrowReply r s).requests = s.requests := by
  unfold narrowReply; split <;> rfl

/-- Performing a request keeps the parameters and the requests behind it. -/
theorem perform_completes {r : Request} {s : State} (hr : ∀ j, r ≠ .reserved j)
    (ht : ∀ t, requestTime r = some t → s.timing.now ≤ t) :
    ∃ u, perform r s = .next u ∧ u.cfg = s.cfg ∧ u.requests = s.requests := by
  obtain ⟨n, hcatch⟩ := catchUp_of_not_stale ht
  obtain ⟨i, hdecode⟩ := decode_of_cmd_le (keyCmd_requestKey_le hr (runClocks n s)) (requestArgs r)
  obtain ⟨u, hexec, hcfg, hreq⟩ := exec_completesFrom i (runClocks n s)
  exact ⟨narrowReply r (reevalIrq u), by simp only [perform, hcatch, hdecode, hexec, finishRequest], by simp [hcfg],
    by simp [hreq]⟩

/-- Settles O7: the request is taken from the queue and performed on the state without it. -/
theorem everyOtherRequestIsPerformed : Obligations.EveryOtherRequestIsPerformed := by
  unfold Obligations.EveryOtherRequestIsPerformed
  intro s r rest hq hr ht
  obtain ⟨u, hu, hcfg, hreq⟩ := perform_completes (s := s.setRequests rest) hr ht
  exact ⟨u, by simpa only [step, hq] using hu, hcfg, hreq⟩

end Sys2Proof.Machine
end

section
/-! The effect an instruction has before it completes, and a step as the effects it consists of
(46_host_operations.md R530; 60_exceptions.md R551): the layer that the invariants of every step are proved from. -/

namespace Sys2Proof.Machine

/-! ## Accesses to the SCSI latches, the status words and the bus -/

/-- SCSI latches are within their masks when the three masked ones are. -/
theorem maskScsi_eq_self_iff (b : Scsi) :
    maskScsi b = b ↔ b.scmd &&& 0x9F#8 = b.scmd ∧ b.smode &&& 0x02#8 = b.smode ∧ b.sphase &&& 0x07#8 = b.sphase := by
  cases b
  simp [maskScsi]

/-- `e` differs from `s` only in the SCSI latches (kept within their masks), the DMA group but DMA_CTL, KRAM (its form
kept), the pending flags, and the traffic with the collaborators. The handshake tick is such an access, too. -/
structure BusAccess (s e : State) : Prop where
  pic : e.pic = s.pic
  palette : e.palette = s.palette
  timing : e.timing = s.timing
  rc : e.rc = s.rc
  play : e.play = s.play
  ovl : e.ovl = s.ovl
  mp : e.mp = s.mp
  kctl : e.kctl = s.kctl
  kram : KramCanonical s → KramCanonical e
  line : e.line = s.line
  out : e.out = s.out
  pcache : e.pcache = s.pcache
  rcd : e.rcd = s.rcd
  extcnt : e.extcnt = s.extcnt
  cfg : e.cfg = s.cfg
  requests : e.requests = s.requests
  dmaCtl : e.dma.ctl = s.dma.ctl
  masked : maskScsi s.scsi = s.scsi → maskScsi e.scsi = e.scsi

theorem BusAccess.refl (s : State) : BusAccess s s := by
  constructor <;> simp

theorem BusAccess.trans {s t u : State} (h : BusAccess s t) (k : BusAccess t u) : BusAccess s u where
  pic := k.pic.trans h.pic
  palette := k.palette.trans h.palette
  timing := k.timing.trans h.timing
  rc := k.rc.trans h.rc
  play := k.play.trans h.play
  ovl := k.ovl.trans h.ovl
  mp := k.mp.trans h.mp
  kctl := k.kctl.trans h.kctl
  kram := k.kram ∘ h.kram
  line := k.line.trans h.line
  out := k.out.trans h.out
  pcache := k.pcache.trans h.pcache
  rcd := k.rcd.trans h.rcd
  extcnt := k.extcnt.trans h.extcnt
  cfg := k.cfg.trans h.cfg
  requests := k.requests.trans h.requests
  dmaCtl := k.dmaCtl.trans h.dmaCtl
  masked := k.masked ∘ h.masked

section
variable (s : State)

theorem busAccess_call (c : Call) : BusAccess s (call s c) := by
  constructor <;> simp [KramCanonical]

theorem busAccess_busGet (l : Line) : BusAccess s (busGet l s).2 := by
  constructor <;> simp [KramCanonical]

theorem busAccess_busGetData : BusAccess s (busGetData s).2 := by
  constructor <;> simp [KramCanonical]

theorem busAccess_setPend (p : Pending) : BusAccess s (s.setPend p) := by
  constructor <;> simp [KramCanonical]

theorem busAccess_setScsi {b : Scsi} (hb : maskScsi s.scsi = s.scsi → maskScsi b = b) :
    BusAccess s (s.setScsi b) := by
  constructor
  case masked => exact hb
  case kram => exact id
  all_goals rfl

theorem busAccess_setDma {d : Dma} (hd : d.ctl = s.dma.ctl) : BusAccess s (s.setDma d) := by
  constructor <;> simp [hd, KramCanonical]

theorem busAccess_forwardOutputs (b a : Scsi) : BusAccess s (forwardOutputs b a s) := by
  constructor <;> simp [KramCanonical]

theorem busAccess_setHsAck (l : Bool) : BusAccess s (setHsAck l s) := by
  constructor <;> simp [maskScsi_eq_self_iff, KramCanonical]

theorem busAccess_stopTransfer : BusAccess s (stopTransfer s) := by
  constructor <;> simp [maskScsi_eq_self_iff, KramCanonical]

theorem busAccess_ite {e e' : State} {p : Prop} [Decidable p] (h : BusAccess s e) (h' : BusAccess s e') :
    BusAccess s (if p then e else e') := by
  split
  · exact h
  · exact h'

/-! ### The handshake tick (45_dma_scsi_handshake.md) -/

theorem busAccess_phaseCheck (req : Bool) : BusAccess s (phaseCheck req s) := by
  have hlines := ((busAccess_busGet s .msg).trans (busAccess_busGet _ .cd)).trans (busAccess_busGet _ .io)
  exact busAccess_ite s
    (busAccess_ite s hlines ((hlines.trans (busAccess_setPend _ _)).trans (busAccess_stopTransfer _))) (.refl s)

theorem busAccess_setKram {m : Memory} (hm : KramCanonical s → m.wf = true) : BusAccess s (s.setKram m) := by
  constructor
  case kram => exact hm
  case masked => exact id
  all_goals rfl

theorem busAccess_dmaPack (b : Byte) : BusAccess s (dmaPack b s) :=
  busAccess_ite s ((busAccess_setKram s (memWrite_wf _ _ _)).trans (busAccess_setDma _ (by rfl)))
    (busAccess_setDma s (by rfl))

theorem busAccess_dmaFinish : BusAccess s (dmaFinish s) :=
  ((busAccess_setDma s (by rfl)).trans (busAccess_setScsi _ (by simp [maskScsi_eq_self_iff]))).trans
    (busAccess_setPend _ _)

theorem busAccess_dmaCount : BusAccess s (dmaCount s) :=
  busAccess_ite s (.refl s) (busAccess_ite s (busAccess_dmaFinish s) (busAccess_setDma s (by rfl)))

theorem busAccess_receiveByte : BusAccess s (receiveByte s) := by
  have hdata := busAccess_busGetData s
  exact busAccess_ite s
    (((hdata.trans (busAccess_dmaPack _ _)).trans (busAccess_dmaCount _)).trans (busAccess_setHsAck _ _))
    (busAccess_ite s hdata (hdata.trans (busAccess_setScsi _ (by simp [maskScsi_eq_self_iff]))))

theorem busAccess_sendByte : BusAccess s (sendByte s) :=
  ((busAccess_call s _).trans (busAccess_setHsAck _ _)).trans
    (busAccess_setScsi _ (by simp [maskScsi_eq_self_iff]))

theorem busAccess_handshakeTick : BusAccess s (handshakeTick s) := by
  have hlines := (busAccess_busGet s .req).trans (busAccess_busGet _ .ack)
  have hcheck := hlines.trans (busAccess_phaseCheck _ (busGet .req s).1)
  exact busAccess_ite s (hcheck.trans (busAccess_setHsAck _ _))
    (busAccess_ite s (hcheck.trans (busAccess_receiveByte _))
      (busAccess_ite s (hcheck.trans (busAccess_sendByte _)) hcheck))

end

/-! ## The effect of an instruction -/

/-- The states an instruction can leave from `s` before it completes. Only the last three kinds name their instruction;
the others stand for many. -/
inductive Effect (s : State) : Instr → State → Prop where
  | nothing {i : Instr} : Effect s i s
  | storeC {i : Instr} (r : CReg) (v : Word) : Effect s i (s.setPic (cStore s.pic r v))
  | storeLo {i : Instr} (r : KReg) (v : Word) : Effect s i (notifyPlay r (kStoreLo s r v))
  | storeHi {i : Instr} (r : KReg) (v : Word) : Effect s i (notifyPlay r (kStoreHi s r v))
  | car {i : Instr} (x : BitVec 5) : Effect s i (s.setCar x)
  | kar {i : Instr} (x : BitVec 7) : Effect s i (s.setKar x)
  | seek {i : Instr} (c : BitVec 9) : Effect s i (s.setPalette (paletteSeek s.palette c))
  | push {i : Instr} (v : Word) :
      Effect s i ((s.setPcache (pcacheSet s.pcache s.palette.cur (expand v))).setPalette (palettePush s.palette v))
  | bus {i : Instr} {e : State} (h : BusAccess s e) : Effect s i e
  | cursorWrite {i : Instr} (v : Word) : Effect s i (cursorWrite v s)
  | cursorAdvance {i : Instr} : Effect s i (cursorAdvance s)
  | play {i : Instr} {p : Playback} (hctl : p.ctl = s.play.ctl) : Effect s i (s.setPlay p)
  | micro {i : Instr} {m : Micro} (hctl : m.ctl = s.mp.ctl) : Effect s i (s.setMp m)
  | run (n : Nat) : Effect s (.run n) (runClocks n s)
  | reset (t : Nat) : Effect s (.reset t) (doReset t s)
  | restore (x : Snapshot) : Effect s (.restore x) (doRestore x s)

/-- The outcome `o` is the completion of an effect: its return value set, IRQ re-evaluated. -/
def CompletesEffect (s : State) (i : Instr) (o : Host.Outcome State Fault Refusal) : Prop :=
  ∃ (e : State) (r : Reply), Effect s i e ∧ o = .next (reevalIrq (e.setReply r))

section
variable {s e : State} {i : Instr}

theorem Effect.complete (h : Effect s i e) : CompletesEffect s i (complete e) := ⟨e, _, h, complete_eq e⟩

theorem Effect.answer (h : Effect s i e) (r : Word) : CompletesEffect s i (answer r e) := ⟨e, _, h, answer_eq e r⟩

end

section
variable (i : Instr) (v : Word) (s : State)

theorem completesEffect_wrSdataLo : CompletesEffect s i (execWrSdataLo v s) := by
  have hstore : BusAccess s (s.setScsi { s.scsi with sout := lowByte v }) :=
    busAccess_setScsi s (by simp [maskScsi_eq_self_iff])
  have hforward := busAccess_ite s (p := dataDriven { s.scsi with sout := lowByte v })
    (hstore.trans (busAccess_call _ (.busSetData (lowByte v)))) hstore
  have hanswer := hforward.trans
    (busAccess_setScsi _ (b := { s.scsi with sout := lowByte v, drq := false })
      (by split <;> simp [maskScsi_eq_self_iff]))
  exact (Effect.bus (busAccess_ite s hanswer hforward)).complete

theorem completesEffect_wrScmdLo : CompletesEffect s i (execWrScmdLo v s) := by
  have hstore : BusAccess s (s.setScsi { s.scsi with scmd := lowByte v &&& 0x9F#8 }) :=
    busAccess_setScsi s (by simp +contextual [maskScsi_eq_self_iff, BitVec.and_assoc])
  exact (Effect.bus (hstore.trans (busAccess_forwardOutputs _ _ _))).complete

theorem completesEffect_wrSmodeLo : CompletesEffect s i (execWrSmodeLo v s) := by
  have hstore : BusAccess s (s.setScsi { s.scsi with smode := lowByte v &&& 0x02#8 }) :=
    busAccess_setScsi s (by simp +contextual [maskScsi_eq_self_iff, BitVec.and_assoc])
  have hstop := hstore.trans (busAccess_stopTransfer _)
  unfold execWrSmodeLo
  dsimp only
  split
  · exact (Effect.bus hstore).complete
  · exact (Effect.bus (busAccess_ite s (hstop.trans (busAccess_setHsAck _ _)) hstop)).complete

theorem completesEffect_wrSphaseLo : CompletesEffect s i (execWrSphaseLo v s) := by
  have hstore : BusAccess s (s.setScsi { s.scsi with sphase := lowByte v &&& 0x07#8 }) :=
    busAccess_setScsi s (by simp +contextual [maskScsi_eq_self_iff, BitVec.and_assoc])
  exact (Effect.bus hstore).complete

theorem completesEffect_wrSstatLo : CompletesEffect s i (execWrSstatLo v s) := by
  unfold execWrSstatLo
  split
  · exact (Effect.bus (busAccess_setScsi s (by simp [maskScsi_eq_self_iff]))).complete
  · exact Effect.nothing.complete

theorem completesEffect_wrSrstLo : CompletesEffect s i (execWrSrstLo v s) := by
  have hstart : BusAccess s (s.setScsi { s.scsi with recvAct := true, sendAct := false, drq := false }) :=
    busAccess_setScsi s (by simp [maskScsi_eq_self_iff])
  unfold execWrSrstLo
  split
  · exact (Effect.bus (hstart.trans (busAccess_setDma _ (by rfl)))).complete
  · exact Effect.nothing.complete

theorem completesEffect_rdSbusLo : CompletesEffect s i (execRdSbusLo s) := by
  have hcontrol := ((busAccess_busGet s .rst).trans (busAccess_busGet _ .bsy)).trans (busAccess_busGet _ .req)
  have hphase :=
    ((hcontrol.trans (busAccess_busGet _ .msg)).trans (busAccess_busGet _ .cd)).trans (busAccess_busGet _ .io)
  exact (Effect.bus (hphase.trans (busAccess_busGet _ .sel))).answer _

theorem completesEffect_rdSstatLo : CompletesEffect s i (execRdSstatLo s) := by
  have hphase := ((busAccess_busGet s .msg).trans (busAccess_busGet _ .cd)).trans (busAccess_busGet _ .io)
  exact (Effect.bus ((hphase.trans (busAccess_busGet _ .atn)).trans (busAccess_busGet _ .ack))).answer _

theorem completesEffect_rdSackLo : CompletesEffect s i (execRdSackLo s) := by
  have hclear : BusAccess s (s.setScsi { s.scsi with drq := false }) :=
    busAccess_setScsi s (by simp [maskScsi_eq_self_iff])
  unfold execRdSackLo
  split
  · exact (Effect.bus (hclear.trans (busAccess_setHsAck _ _))).answer _
  · exact Effect.nothing.answer _

theorem completesEffect_playfetch (c : Channel) : CompletesEffect s i (execPlayfetch c s) := by
  unfold execPlayfetch
  split
  · exact (Effect.play (by cases c <;> rfl)).answer _
  · exact Effect.nothing.answer _

end

/-- Whatever its form, an outcome completes an effect. -/
theorem ExecForm.completesEffect {s : State} {i : Instr} {o : Host.Outcome State Fault Refusal} (h : ExecForm s i o) :
    CompletesEffect s i o := by
  cases h with
  | read r => exact Effect.nothing.answer r
  | inert => exact Effect.nothing.complete
  | save => exact ⟨s, _, .nothing, rfl⟩
  | storeC r v => exact (Effect.storeC r v).complete
  | storeLo r v => exact (Effect.storeLo r v).complete
  | storeHi r v => exact (Effect.storeHi r v).complete
  | wrCar v => exact (Effect.car _).complete
  | wrKar v => exact (Effect.kar _).complete
  | wrPaladdr v => exact (Effect.seek _).complete
  | rdPalrdata => exact (Effect.seek _).answer _
  | wrPalwdata v => exact (Effect.push v).complete
  | wrKramdataLo v => exact (Effect.cursorWrite v).complete
  | rdKramdataLo => exact Effect.cursorAdvance.answer _
  | wrMpdataLo v => exact (Effect.micro (by rfl)).complete
  | rdAdstatLo => exact (Effect.play (by rfl)).answer _
  | playfetch c => exact completesEffect_playfetch _ s c
  | wrSdataLo v => exact completesEffect_wrSdataLo _ v s
  | wrScmdLo v => exact completesEffect_wrScmdLo _ v s
  | wrSmodeLo v => exact completesEffect_wrSmodeLo _ v s
  | wrSphaseLo v => exact completesEffect_wrSphaseLo _ v s
  | wrSstatLo v => exact completesEffect_wrSstatLo _ v s
  | wrSrstLo v => exact completesEffect_wrSrstLo _ v s
  | rdKstat | rdSrstLo => exact (Effect.bus (busAccess_setPend s _)).answer _
  | rdSdataLo => exact (Effect.bus (busAccess_busGetData s)).answer _
  | rdSbusLo => exact completesEffect_rdSbusLo _ s
  | rdSstatLo => exact completesEffect_rdSstatLo _ s
  | rdSackLo => exact completesEffect_rdSackLo _ s
  | run n => exact (Effect.run n).complete
  | reset t => exact (Effect.reset t).complete
  | restore x => exact (Effect.restore x).complete

/-- An instruction that answers a next state has completed an effect. -/
theorem exists_effect_of_exec {i : Instr} {s t : State} (h : exec i s = .next t) :
    ∃ (e : State) (r : Reply), Effect s i e ∧ t = reevalIrq (e.setReply r) := by
  obtain ⟨e, r, heffect, hexec⟩ := (exec_form i s).completesEffect
  exact ⟨e, r, heffect, Host.Outcome.next.inj (h.symm.trans hexec)⟩

/-! ## A step, from its catch-up to its reply -/

/-- A request that is caught up with has run the scheduler some number of clocks (46_host_operations.md R530). -/
theorem eq_runClocks_of_catchUp {r : Request} {s u : State} (h : catchUp r s = .ok u) : ∃ n, u = runClocks n s := by
  unfold catchUp at h
  split at h
  · exact ⟨0, (Except.ok.inj h).symm⟩
  · split at h
    · nomatch h
    · exact ⟨_, (Except.ok.inj h).symm⟩

/-- A performed request has caught up, executed one instruction and handed the host its reply
(46_host_operations.md R530). -/
theorem exists_exec_of_perform {r : Request} {s t : State} (h : perform r s = .next t) :
    ∃ (n : Nat) (i : Instr) (u : State), exec i (runClocks n s) = .next u ∧ t = narrowReply r u := by
  unfold perform at h
  split at h
  · nomatch h
  next s1 hcatch =>
    obtain ⟨n, rfl⟩ := eq_runClocks_of_catchUp hcatch
    split at h
    · nomatch h
    next i _ =>
      obtain ⟨u, hexec, -, -⟩ := exec_completesFrom i (runClocks n s)
      rw [hexec] at h
      exact ⟨n, i, _, hexec, (Host.Outcome.next.inj h).symm⟩

/-- A step does nothing, or performs the first waiting request. -/
theorem eq_or_perform_of_step {s t : State} (h : step s = .next t) :
    t = s ∨ ∃ r rest, perform r (s.setRequests rest) = .next t := by
  unfold step at h
  split at h
  · exact .inl (Host.Outcome.next.inj h).symm
  · exact .inr ⟨_, _, h⟩

/-- Handing the host its part of the result changes the reply at most. -/
theorem narrowReply_eq (r : Request) (s : State) : ∃ x, narrowReply r s = s.setReply x := by
  unfold narrowReply
  split
  · exact ⟨_, rfl⟩
  · exact ⟨s.reply, rfl⟩

/-- A property that the bookkeeping of a request does not touch: the queue, the reply, the re-evaluation of IRQ. -/
structure OfTheBlock (P : State → Prop) : Prop where
  setRequests : ∀ s x, P s → P (s.setRequests x)
  setReply : ∀ s x, P s → P (s.setReply x)
  reevalIrq : ∀ s, P s → P (reevalIrq s)

/-- What every effect keeps, every step keeps: the catch-up of a request is the effect of a RUN. -/
theorem step_keeps {P : State → Prop} (hP : OfTheBlock P) (heffect : ∀ {i s e}, P s → Effect s i e → P e) {s t : State}
    (hs : P s) (hstep : step s = .next t) : P t := by
  obtain rfl | ⟨r, rest, hperform⟩ := eq_or_perform_of_step hstep
  · exact hs
  · obtain ⟨n, i, u, hexec, rfl⟩ := exists_exec_of_perform hperform
    obtain ⟨e, y, he, rfl⟩ := exists_effect_of_exec hexec
    obtain ⟨x, hx⟩ := narrowReply_eq r (reevalIrq (e.setReply y))
    have hrun : P (runClocks n (s.setRequests rest)) := heffect (hP.setRequests s rest hs) (.run n)
    rw [hx]
    exact hP.setReply _ x (hP.reevalIrq _ (hP.setReply _ y (heffect hrun he)))

/-! ## The parts of a chunk (42_timing_scheduler.md R360, R361) -/

/-- A property of the block that every part of a chunk keeps. -/
structure KeptByParts (P : State → Prop) : Prop extends OfTheBlock P where
  tileAdvance : ∀ c s, P s → P (tileAdvance c s)
  countDown : ∀ c s, P s → P (countDown c s)
  setPhase : ∀ ph s, P s → P (setPhase ph s)
  setPhaseCount : ∀ s, P s → P (setPhaseCount s)
  enterP1 : ∀ s, P s → P (enterP1 s)
  lineStep : ∀ s, P s → P (lineStep s)
  latch : ∀ s, P s → P (latch s)
  bgStep : ∀ s, P s → P (bgStep s)
  overlayLine : ∀ s, P s → P (overlayLine s)
  clearTileBuffer : ∀ s, P s → P (clearTileBuffer s)
  handshakeTick : ∀ s, P s → P (handshakeTick s)
  reloadHscnt : ∀ s, P s → P (s.setTiming { s.timing with hscnt := s.cfg.hsEvery })
  extService : ∀ s, P s → P (extService s)

namespace KeptByParts
variable {P : State → Prop} (k : KeptByParts P) {s : State} (h : P s)
include k h

theorem enterActive : P (enterActive s) :=
  k.clearTileBuffer _ (k.overlayLine _ (k.bgStep _ (k.latch _ h)))

theorem phaseStep : P (phaseStep s) := by
  have hline (p : Prop) [Decidable p] : P (if p then Machine.lineStep s else s) := by
    split
    · exact k.lineStep _ h
    · exact h
  unfold Machine.phaseStep
  split
  · exact k.setPhaseCount _ (k.enterP1 _ (k.setPhase _ _ h))
  · exact k.setPhaseCount _ (k.setPhase _ _ h)
  · exact k.setPhaseCount _ (k.setPhase _ _ (hline _))
  · exact k.setPhaseCount _ (k.enterActive (k.setPhase _ _ (hline _)))

theorem servicePhase : P (servicePhase s) := by
  unfold Machine.servicePhase
  split
  · exact k.reevalIrq _ (k.phaseStep h)
  · exact h

theorem serviceHandshake : P (serviceHandshake s) := by
  unfold Machine.serviceHandshake
  split
  · exact k.reevalIrq _ (k.reloadHscnt _ (k.handshakeTick _ h))
  · exact h

theorem serviceExternal : P (serviceExternal s) := by
  unfold Machine.serviceExternal
  split
  · exact k.reevalIrq _ (k.extService _ h)
  · exact h

theorem runChunk (c : Nat) : P (runChunk c s) :=
  k.serviceExternal (k.serviceHandshake (k.servicePhase (k.countDown _ _ (k.tileAdvance _ _ h))))

theorem runClocks (n : Nat) : P (runClocks n s) :=
  runClocks_induction P (fun c _ hu => k.runChunk hu c) n s h

end KeptByParts

end Sys2Proof.Machine
end

section
/-! What forwarding, RESET and RESTORE leave, and the first two invariants of every step: the form of KRAM and the
mirror of the palette. -/

namespace Sys2Proof.Machine

/-! ## Forwarding makes calls and does nothing else (10_state.md R76) -/

theorem State.setCalls_setCalls (s : State) (x y : List Call) : (s.setCalls x).setCalls y = s.setCalls y := rfl

theorem forwardLine_eq (l : Line) (b a : Bool) (s : State) :
    forwardLine l b a s = s.setCalls ((lineChange l b a).reverse ++ s.calls) := by
  unfold forwardLine lineChange
  split <;> rfl

theorem forwardData_eq (b a : Scsi) (s : State) : forwardData b a s = s.setCalls (forwardData b a s).calls := by
  unfold forwardData
  dsimp only
  rw [forwardLine_eq]
  split <;> rfl

theorem forwardOutputs_eq (b a : Scsi) (s : State) :
    forwardOutputs b a s = s.setCalls ((outputChanges b a).reverse ++ s.calls) := by
  rw [← forwardOutputs_calls]
  unfold forwardOutputs
  rw [forwardData_eq]
  simp only [forwardLine_eq, State.setCalls_setCalls, State.setCalls_calls]

/-! ## What RESET and RESTORE store -/

@[simp] theorem forwardOutputs_toSnapshot (b a : Scsi) (s : State) :
    (forwardOutputs b a s).toSnapshot = s.toSnapshot := by
  rw [forwardOutputs_eq, State.setCalls_toSnapshot]

/-- RESTORE stores the snapshot within its masks and ranges (46_host_operations.md R533, R534). -/
@[simp] theorem doRestore_toSnapshot (x : Snapshot) (s : State) : (doRestore x s).toSnapshot = sanitize s.cfg x := by
  obtain ⟨next, -, -, hstate⟩ := busNextEvent_spec
    (((s.setSnapshot (sanitize s.cfg x)).setPcache (pcacheOf x.palette.pal)).setRcd
      { pcache := pcacheOf x.palette.pal, rank := resolveRanks (maskPic x.rc.pic) })
  refine (forwardOutputs_toSnapshot ..).trans ?_
  exact congrArg State.toSnapshot hstate

@[simp] theorem doRestore_pcache (x : Snapshot) (s : State) : (doRestore x s).pcache = pcacheOf x.palette.pal := by
  simp [doRestore, sanitize]

@[simp] theorem doRestore_rcd (x : Snapshot) (s : State) :
    (doRestore x s).rcd = { pcache := pcacheOf x.palette.pal, rank := resolveRanks (maskPic x.rc.pic) } := by
  simp [doRestore, sanitize]

/-- RESET stores the reset state, KRAM as it was (70_reset_and_hazards.md R590, R592). -/
@[simp] theorem doReset_toSnapshot (t : Nat) (s : State) :
    (doReset t s).toSnapshot = Snapshot.cleared s.cfg s.kram t := rfl
@[simp] theorem doReset_pcache (t : Nat) (s : State) : (doReset t s).pcache = pcacheZero := rfl
@[simp] theorem doReset_rcd (t : Nat) (s : State) :
    (doReset t s).rcd = { pcache := pcacheZero, rank := Ranks.zero } := rfl

/-- EXTCNT after RESET and RESTORE is a drawn answer, INF or at least 1 (10_state.md R71). -/
theorem busNextEvent_ne_zero (s : State) : (busNextEvent s).1 ≠ some 0 := by
  obtain ⟨next, -, hnext, -⟩ := busNextEvent_spec s
  rw [hnext]
  cases next <;> simp

/-! ## KRAM in canonical form (10_state.md R60; 20_memory.md R109) -/

theorem kramCanonical_keptByParts : KeptByParts KramCanonical where
  setRequests _ _ h := h
  setReply _ _ h := h
  reevalIrq s h := by simpa [KramCanonical] using h
  tileAdvance c s h := by simpa [KramCanonical] using h
  countDown c s h := by simpa [KramCanonical] using h
  setPhase ph s h := by simpa [KramCanonical] using h
  setPhaseCount s h := by simpa [KramCanonical] using h
  enterP1 s h := by simpa [KramCanonical] using h
  lineStep s h := by simpa [KramCanonical] using h
  latch s h := by simpa [KramCanonical] using h
  bgStep s h := by simpa [KramCanonical] using h
  overlayLine s h := by simpa [KramCanonical] using h
  clearTileBuffer s h := by simpa [KramCanonical] using h
  handshakeTick s h := (busAccess_handshakeTick s).kram h
  reloadHscnt s h := h
  extService s h := by simpa [KramCanonical] using h

theorem kramCanonical_effect {i : Instr} {s e : State} (h : KramCanonical s) (he : Effect s i e) : KramCanonical e := by
  cases he with
  | bus hbus => exact hbus.kram h
  | cursorWrite v => exact memWrite_wf _ _ _ h
  | run n => exact kramCanonical_keptByParts.runClocks h n
  | reset t => exact h
  | restore x => simpa [KramCanonical, sanitize] using Memory.wf_canonical x.kram
  | nothing | storeC | storeLo | storeHi | car | kar | seek | push | cursorAdvance | play | micro =>
    simpa [KramCanonical] using h

/-- Settles O51: the writers of KRAM are the tick, the CPU cursor and RESTORE, and each keeps the form. -/
theorem everyStepKeepsKramCanonical : Obligations.EveryStepKeepsKramCanonical := by
  unfold Obligations.EveryStepKeepsKramCanonical
  intro s t hs hstep
  exact step_keeps kramCanonical_keptByParts.toOfTheBlock kramCanonical_effect hs hstep

/-! ## The palette cache (10_state.md R35; 43_palette_yuv.md R413) -/

theorem paletteMirrored_ofTheBlock : OfTheBlock PaletteMirrored where
  setRequests _ _ h := h
  setReply _ _ h := h
  reevalIrq s h := by simpa [PaletteMirrored] using h

/-- Both halves of the cache `q` hold the expansion of entry `i` of the palette `p`. -/
def EntryMirrored (p : Vector Word 512) (q : Vector Yuv24 1024) (i : BitVec 9) : Prop :=
  pcacheGet q (i.setWidth 10) = expand (palGet p i) ∧ pcacheGet q (i.setWidth 10 + 512#10) = expand (palGet p i)

theorem paletteMirrored_iff (s : State) : PaletteMirrored s ↔ ∀ i, EntryMirrored s.palette.pal s.pcache i := Iff.rfl

/-- A write of an entry and of its expansion keeps the mirror. -/
theorem entryMirrored_write {p : Vector Word 512} {q : Vector Yuv24 1024} {i : BitVec 9} (h : EntryMirrored p q i)
    (c : BitVec 9) (v : Word) : EntryMirrored (palSet p c v) (pcacheSet q c (expand v)) i := by
  have hlow : (i.setWidth 10).extractLsb' 0 9 = i := by
    apply BitVec.eq_of_toNat_eq
    simp [BitVec.extractLsb'_toNat]
    omega
  have hhigh : (i.setWidth 10 + 512#10).extractLsb' 0 9 = i := by
    apply BitVec.eq_of_toNat_eq
    simp [BitVec.extractLsb'_toNat]
    omega
  simp only [EntryMirrored, pcacheGet_pcacheSet, palGet_palSet, hlow, hhigh]
  split
  · exact ⟨rfl, rfl⟩
  · exact h

/-- RESET's palette is mirrored by its cache: EXPAND of 0 is 0. -/
theorem entryMirrored_zero (i : BitVec 9) : EntryMirrored Palette.zero.pal pcacheZero i := by
  have hzero : palGet Palette.zero.pal i = 0 := by simp [palGet, Palette.zero]
  rw [EntryMirrored, hzero, pcacheGet_pcacheZero, pcacheGet_pcacheZero]
  decide

theorem entryMirrored_pcacheOf (p : Vector Word 512) (i : BitVec 9) : EntryMirrored p (pcacheOf p) i :=
  ⟨pcacheGet_pcacheOf_low p i, pcacheGet_pcacheOf_high p i⟩

theorem paletteMirrored_effect {i : Instr} {s e : State} (h : PaletteMirrored s) (he : Effect s i e) :
    PaletteMirrored e := by
  rw [paletteMirrored_iff] at h ⊢
  cases he with
  | seek c => exact h
  | push v => exact fun i => entryMirrored_write (h i) s.palette.cur v
  | run n => simpa using h
  | reset t => simpa [Snapshot.cleared] using entryMirrored_zero
  | restore x => simpa [sanitize] using entryMirrored_pcacheOf x.palette.pal
  | bus b => simpa [b.palette, b.pcache] using h
  | nothing | storeC | storeLo | storeHi | car | kar | cursorWrite | cursorAdvance | play | micro => simpa using h

/-- Settles O52: only PALWDATA, RESET and RESTORE write the palette or its cache, and each writes both. -/
theorem everyStepKeepsThePaletteMirror : Obligations.EveryStepKeepsThePaletteMirror := by
  unfold Obligations.EveryStepKeepsThePaletteMirror
  intro s t hs hstep
  exact step_keeps paletteMirrored_ofTheBlock paletteMirrored_effect hs hstep

end Sys2Proof.Machine
end

section
/-! Single accesses: those that leave the display alone, and the SCSI command, mode and acknowledge registers. -/

namespace Sys2Proof.Machine

/-! ## The accesses that leave the display alone (10_state.md R47; 60_exceptions.md R601) -/

/-- Settles O49: the effects that are none of RUN, RESET and RESTORE keep these fields, and so does completing. -/
theorem onlyRunResetAndRestoreReachTheDisplay : Obligations.OnlyRunResetAndRestoreReachTheDisplay := by
  unfold Obligations.OnlyRunResetAndRestoreReachTheDisplay
  intro i s t hexec hrun hreset hrestore
  obtain ⟨e, r, heffect, rfl⟩ := exists_effect_of_exec hexec
  simp only [reevalIrq_rc]
  cases heffect with
  | run n => exact absurd rfl (hrun n)
  | reset n => exact absurd rfl (hreset n)
  | restore x => exact absurd rfl (hrestore x)
  | bus h => simp [h.rc, h.rcd, h.timing, h.extcnt, h.line, h.out, h.cfg, h.requests]
  | nothing | storeC | storeLo | storeHi | car | kar | seek | push | cursorWrite | cursorAdvance | play | micro => simp

theorem setHsAck_eq (l : Bool) (s : State) :
    setHsAck l s =
      (s.setScsi { s.scsi with hsAck := l }).setCalls
        ((lineChange .ack (s.scsi.scmd.getLsbD 4 || s.scsi.hsAck) (s.scsi.scmd.getLsbD 4 || l)).reverse ++ s.calls) :=
  forwardLine_eq ..

/-! ## The SCSI command, mode and acknowledge registers (41_memory_dma_registers.md R271, R272, R278) -/

/-- Settles O19: the command latch is stored and the outputs that differ are forwarded. -/
theorem commandWriteForwardsTheChangedLines : Obligations.CommandWriteForwardsTheChangedLines := by
  unfold Obligations.CommandWriteForwardsTheChangedLines
  intro v s b
  exact completes_of_complete (congrArg complete (forwardOutputs_eq s.scsi b (s.setScsi b)))

/-- The mode a write stores is its bit 1. -/
theorem lowByte_and_dmaMode (v : Word) : lowByte v &&& 0x02#8 = if v.getLsbD 1 then 0x02#8 else 0#8 := by
  apply BitVec.eq_of_getLsbD_eq
  intro j hj
  cases h : v.getLsbD 1 <;> interval_cases j <;> simp_all [lowByte]

/-- Asserting HS_ACK makes a call when nothing drove ACK. -/
theorem setHsAck_true_eq (s : State) :
    setHsAck true s =
      (s.setScsi { s.scsi with hsAck := true }).setCalls
        (if s.scsi.scmd.getLsbD 4 || s.scsi.hsAck then s.calls else .busSet .ack true :: s.calls) := by
  rw [setHsAck_eq]
  cases s.scsi.scmd.getLsbD 4 <;> cases s.scsi.hsAck <;> rfl

/-- Releasing HS_ACK makes a call when it alone drove ACK. -/
theorem setHsAck_false_eq (s : State) :
    setHsAck false s =
      (s.setScsi { s.scsi with hsAck := false }).setCalls
        (if s.scsi.hsAck = true ∧ s.scsi.scmd.getLsbD 4 = false then .busSet .ack false :: s.calls else s.calls) := by
  rw [setHsAck_eq]
  cases s.scsi.scmd.getLsbD 4 <;> cases s.scsi.hsAck <;> rfl

/-- HS_ACK is 0 in a state whose HS_ACK is 0. -/
theorem setHsAck_false_of_not {s : State} (h : s.scsi.hsAck = false) : setHsAck false s = s := by
  have hlatches : { s.scsi with hsAck := false } = s.scsi := by rw [← h]
  rw [setHsAck_false_eq, hlatches, h]
  rfl

theorem execWrSmodeLo_of_dmaMode {v : Word} {s : State} (h : v.getLsbD 1 = true) :
    execWrSmodeLo v s = complete (s.setScsi { s.scsi with smode := 0x02 }) := by
  have hmode := lowByte_and_dmaMode v
  rw [h, if_pos rfl] at hmode
  unfold execWrSmodeLo
  dsimp only
  rw [hmode, if_pos (by simp [dmaMode])]
  rfl

theorem execWrSmodeLo_of_not_dmaMode {v : Word} {s : State} (h : v.getLsbD 1 = false) :
    execWrSmodeLo v s = complete (setHsAck false (stopTransfer (s.setScsi { s.scsi with smode := 0 }))) := by
  have hmode := lowByte_and_dmaMode v
  rw [h, if_neg Bool.false_ne_true] at hmode
  unfold execWrSmodeLo
  dsimp only
  rw [hmode, if_neg (by simp [dmaMode])]
  split
  · rfl
  · exact congrArg complete (setHsAck_false_of_not (Bool.eq_false_of_not_eq_true ‹_›)).symm

/-- Settles O20: with DMA_MODE kept the store is all; without it the transfer stops, and ACK falls when HS_ACK alone
drove it. -/
theorem modeWriteStopsTheTransfer : Obligations.ModeWriteStopsTheTransfer := by
  unfold Obligations.ModeWriteStopsTheTransfer
  intro v s
  constructor
  · exact fun hv => completes_of_complete (execWrSmodeLo_of_dmaMode hv)
  · intro hv
    refine completes_of_complete ((execWrSmodeLo_of_not_dmaMode hv).trans ?_)
    rw [setHsAck_false_eq]
    rfl

/-- Settles O24: the read clocks the transfer under its three conditions, and ACK rises when nothing drove it. -/
theorem acknowledgeReadClocksThePseudoTransfer : Obligations.AcknowledgeReadClocksThePseudoTransfer := by
  unfold Obligations.AcknowledgeReadClocksThePseudoTransfer
  intro s
  constructor
  · intro h
    refine completes_of_answer ((if_pos h).trans ?_)
    rw [setHsAck_true_eq]
    rfl
  · exact fun h => completes_of_answer (if_neg h)

end Sys2Proof.Machine
end

section
/-! High-half writes of the narrow memory/DMA registers (41_memory_dma_registers.md R260). -/

namespace Sys2Proof.Machine

/-! ## Register values within their masks (41_memory_dma_registers.md R260) -/

/-- A stored register of `w` bits, all of them writable, is within its mask. -/
theorem setWidth_and_mask {w : Nat} (x : BitVec w) (m : BitVec 32) (hm : ∀ i, i < w → m.getLsbD i = true) :
    x.setWidth 32 &&& m = x.setWidth 32 := by
  apply BitVec.eq_of_getLsbD_eq
  intro i hi
  by_cases hw : i < w
  · simp [hm i hw]
  · simp [BitVec.getLsbD_of_ge x i (by omega)]

/-- A 16-bit register within its mask stays so when it is read as 32 bits. -/
theorem setWidth_and_setWidth {x m : Word} (h : x &&& m = x) : x.setWidth 32 &&& m.setWidth 32 = x.setWidth 32 := by
  rw [← BitVec.setWidth_and, h]

/-- Every memory/DMA register holds writable bits only. -/
theorem kRead_and_kMask {s : State} (h : MasksHold s) (r : KReg) : kRead s r &&& kMask r = kRead s r := by
  obtain ⟨-, -, -, hdma, hplay, hovl, hmp, hpage⟩ := h
  cases r
  case dmactl => exact setWidth_and_setWidth hdma
  case adctl => exact setWidth_and_setWidth hplay
  case ovlctl => exact setWidth_and_setWidth hovl
  case mpctl => exact setWidth_and_setWidth hmp
  case page => exact hpage
  all_goals exact setWidth_and_mask _ _ (by decide)

/-- Storing what the register holds changes nothing. -/
theorem kWrite_kRead (s : State) (r : KReg) : kWrite s r (kRead s r) = s := by
  cases r
  case page => rfl
  all_goals
    simp only [kWrite, kRead, BitVec.setWidth_setWidth_of_le, BitVec.setWidth_eq, Nat.reduceLeDiff]
    rfl

/-- The high half of the value has no bit in a mask of 16 bits. -/
theorem mergeHi_and_of_narrow (x : BitVec 32) (v : Word) {m : BitVec 32}
    (hm : ∀ i < 32, 16 ≤ i → m.getLsbD i = false) :
    mergeHi x v &&& m = x &&& m := by
  apply BitVec.eq_of_getLsbD_eq
  intro i hi
  rw [BitVec.getLsbD_and, BitVec.getLsbD_and, getLsbD_mergeHi]
  split
  · rfl
  · rw [hm i hi (by omega), Bool.and_false, Bool.and_false]

/-- A high-half write of a narrow register stores what it holds. -/
theorem kStoreHi_of_narrow {s : State} (h : MasksHold s) {r : KReg}
    (hr : ∀ i < 32, 16 ≤ i → (kMask r).getLsbD i = false) (v : Word) :
    kStoreHi s r v = s := by
  rw [kStoreHi, mergeHi_and_of_narrow _ v hr, kRead_and_kMask h, kWrite_kRead]

/-- Such a write has no effect when the playback engine is not notified of it. -/
theorem noEffect_storeHi {s : State} (h : MasksHold s) {i : Instr} {r : KReg} {v : Word} (hi : exec i s = storeHi r v s)
    (hr : ∀ i < 32, 16 ≤ i → (kMask r).getLsbD i = false) (hn : kNotifies r = none) : NoEffect i s := by
  refine completes_of_complete (hi.trans (congrArg complete ?_))
  rw [kStoreHi_of_narrow h hr, notifyPlay, hn]

/-- Settles O28: every one of these registers has a mask of 16 bits, and none of them is notified. -/
theorem narrowRegisterHighHalfWritesChangeNothing : Obligations.NarrowRegisterHighHalfWritesChangeNothing := by
  unfold Obligations.NarrowRegisterHighHalfWritesChangeNothing
  intro v s hs
  repeat' apply And.intro
  all_goals exact noEffect_storeHi hs rfl (by decide) rfl

end Sys2Proof.Machine
end

section
/-! Every step keeps the masks and the counters' ranges. -/

namespace Sys2Proof.Machine

/-! ## Masks (10_state.md R44) -/

/-- Controller registers are within their masks when the three with fewer bits than their width are. -/
theorem maskPic_eq_self_iff (p : PicRegs) :
    maskPic p = p ↔ p.pmode &&& cMask .pmode = p.pmode ∧ p.palofs3 &&& cMask .palofs3 = p.palofs3 ∧
      p.prio1 &&& cMask .prio1 = p.prio1 := by
  cases p
  simp [maskPic]

theorem maskPic_maskPic (p : PicRegs) : maskPic (maskPic p) = maskPic p := by
  simp [maskPic, BitVec.and_assoc]

theorem maskScsi_maskScsi (b : Scsi) : maskScsi (maskScsi b) = maskScsi b := by
  simp [maskScsi, BitVec.and_assoc]

/-- A controller store keeps the masks. -/
theorem maskPic_cStore {p : PicRegs} (h : maskPic p = p) (r : CReg) (v : Word) :
    maskPic (cStore p r v) = cStore p r v := by
  rw [maskPic_eq_self_iff] at h ⊢
  obtain ⟨hpmode, hpalofs3, hprio1⟩ := h
  have hself (m : Word) : v &&& m &&& m = v &&& m := by rw [BitVec.and_assoc, BitVec.and_self]
  cases r
  case pmode => exact ⟨hself _, hpalofs3, hprio1⟩
  case palofs3 => exact ⟨hpmode, hself _, hprio1⟩
  case prio1 => exact ⟨hpmode, hpalofs3, hself _⟩
  all_goals exact ⟨hpmode, hpalofs3, hprio1⟩

/-- A value within the mask of a 16-bit register is so at the register's width. -/
theorem setWidth_and_of_and {x : BitVec 32} {m : Word} (h : x &&& m.setWidth 32 = x) :
    x.setWidth 16 &&& m = x.setWidth 16 := by
  have := congrArg (BitVec.setWidth 16) h
  rwa [BitVec.setWidth_and, BitVec.setWidth_setWidth_of_le _ (by decide), BitVec.setWidth_eq] at this

/-- Storing a value within the register's mask keeps the masks. -/
theorem masksHold_kWrite {s : State} (h : MasksHold s) {r : KReg} {x : BitVec 32} (hx : x &&& kMask r = x) :
    MasksHold (kWrite s r x) := by
  obtain ⟨hpic, hrc, hscsi, hdma, hplay, hovl, hmp, hpage⟩ := h
  cases r
  case dmactl => exact ⟨hpic, hrc, hscsi, setWidth_and_of_and hx, hplay, hovl, hmp, hpage⟩
  case adctl => exact ⟨hpic, hrc, hscsi, hdma, setWidth_and_of_and hx, hovl, hmp, hpage⟩
  case ovlctl => exact ⟨hpic, hrc, hscsi, hdma, hplay, setWidth_and_of_and hx, hmp, hpage⟩
  case mpctl => exact ⟨hpic, hrc, hscsi, hdma, hplay, hovl, setWidth_and_of_and hx, hpage⟩
  case page => exact ⟨hpic, hrc, hscsi, hdma, hplay, hovl, hmp, hx⟩
  all_goals exact ⟨hpic, hrc, hscsi, hdma, hplay, hovl, hmp, hpage⟩

theorem masksHold_notifyPlay {s : State} (h : MasksHold s) (r : KReg) : MasksHold (notifyPlay r s) := by
  simpa [MasksHold] using h

theorem masksHold_kStore {s : State} (h : MasksHold s) (r : KReg) (x : BitVec 32) :
    MasksHold (notifyPlay r (kWrite s r (x &&& kMask r))) :=
  masksHold_notifyPlay (masksHold_kWrite h (by rw [BitVec.and_assoc, BitVec.and_self])) r

/-- Clearing OVL_CTL.EN keeps its mask. -/
theorem masksHold_overlayBlock {s : State} (h : MasksHold s) : MasksHold (overlayBlock s) := by
  obtain ⟨hpic, hrc, hscsi, hdma, hplay, hovl, hmp, hpage⟩ := h
  refine ⟨by simpa using hpic, by simpa using hrc, by simpa using hscsi, by simpa using hdma, by simpa using hplay, ?_,
    by simpa using hmp, by simpa using hpage⟩
  simp only [overlayBlock, State.setOvl_ovl, ovlDecodeBlock_ovl]
  split
  · rw [BitVec.and_assoc, BitVec.and_comm 0xFFFE#16, ← BitVec.and_assoc, hovl]
  · exact hovl

theorem masksHold_overlayLine {s : State} (h : MasksHold s) : MasksHold (overlayLine s) := by
  have hblock := masksHold_overlayBlock h
  unfold overlayLine
  dsimp only
  split
  · split
    · simpa [MasksHold] using h
    · simpa [MasksHold] using hblock
  · exact h

/-- A latch copies the live registers, which are within their masks. -/
theorem masksHold_latch {s : State} (h : MasksHold s) : MasksHold (latch s) := by
  obtain ⟨hpic, -, hrest⟩ := h
  exact ⟨hpic, hpic, hrest⟩

theorem masksHold_of_busAccess {s e : State} (b : BusAccess s e) (h : MasksHold s) : MasksHold e := by
  obtain ⟨hpic, hrc, hscsi, hdma, hplay, hovl, hmp, hpage⟩ := h
  refine ⟨?_, ?_, b.masked hscsi, ?_, ?_, ?_, ?_, ?_⟩
  all_goals simp only [b.pic, b.rc, b.dmaCtl, b.play, b.ovl, b.mp, b.kctl]
  all_goals assumption

theorem masksHold_keptByParts : KeptByParts MasksHold where
  setRequests _ _ h := h
  setReply _ _ h := h
  reevalIrq s h := by simpa [MasksHold] using h
  tileAdvance c s h := by simpa [MasksHold] using h
  countDown c s h := h
  setPhase ph s h := h
  setPhaseCount s h := h
  enterP1 s h := by simpa [MasksHold] using h
  lineStep s h := by simpa [MasksHold] using h
  latch s h := masksHold_latch h
  bgStep s h := by simpa [MasksHold] using h
  overlayLine s h := masksHold_overlayLine h
  clearTileBuffer s h := h
  handshakeTick s h := masksHold_of_busAccess (busAccess_handshakeTick s) h
  reloadHscnt s h := h
  extService s h := by simpa [MasksHold] using h

theorem masksHold_sanitize (c : Params) (x : Snapshot) (s : State) (h : s.toSnapshot = sanitize c x) : MasksHold s := by
  simp only [MasksHold, h, sanitize, maskPic_maskPic, maskScsi_maskScsi, BitVec.and_assoc, BitVec.and_self, and_self]

theorem masksHold_cleared (c : Params) (m : Memory) (t : Nat) (s : State) (h : s.toSnapshot = Snapshot.cleared c m t) :
    MasksHold s := by
  simp only [MasksHold, h, Snapshot.cleared]
  decide

theorem masksHold_effect {i : Instr} {s e : State} (h : MasksHold s) (he : Effect s i e) : MasksHold e := by
  cases he with
  | storeC r v =>
    obtain ⟨hpic, hrest⟩ := h
    exact ⟨maskPic_cStore hpic r v, hrest⟩
  | storeLo r v => exact masksHold_kStore h r _
  | storeHi r v => exact masksHold_kStore h r _
  | bus b => exact masksHold_of_busAccess b h
  | play hctl => simpa [MasksHold, hctl] using h
  | micro hctl => simpa [MasksHold, hctl] using h
  | run n => exact masksHold_keptByParts.runClocks h n
  | reset t => exact masksHold_cleared _ _ _ _ (doReset_toSnapshot t s)
  | restore x => exact masksHold_sanitize _ _ _ (doRestore_toSnapshot x s)
  | nothing | car | kar | seek | push | cursorWrite | cursorAdvance => exact h

/-! ## Counters (10_state.md R39, R40, R42, R70, R71) -/

/-- The bounds that hold at every point of a run, also between the services of a chunk. -/
def CountersBounded (s : State) : Prop :=
  s.timing.raster.toNat ≤ 262 ∧ s.rc.line.toNat ≤ 262 ∧ s.timing.hscnt ≤ s.cfg.hsEvery ∧
    s.timing.divrem < max (s.cfg.divOf false) (s.cfg.divOf true)

/-- What else holds between chunks: each counter is at least 1. -/
def CountersStarted (s : State) : Prop := 1 ≤ s.timing.hcnt ∧ 1 ≤ s.timing.hscnt ∧ s.extcnt ≠ some 0

theorem countersHold_iff (s : State) : CountersHold s ↔ CountersBounded s ∧ CountersStarted s := by
  unfold CountersHold CountersBounded CountersStarted
  tauto

theorem lineCount_le (pmode : Word) : lineCount pmode ≤ 263 := by
  have := Bool.toNat_le (line263 pmode)
  unfold lineCount
  omega

/-- A line step stays within the frame (42_timing_scheduler.md R364). -/
theorem nextRaster_toNat_le (pmode : Word) (l : BitVec 9) : (nextRaster pmode l).toNat ≤ 262 := by
  have hcount := lineCount_le pmode
  have hone : (1 : BitVec 9).toNat = 1 := rfl
  unfold nextRaster
  split
  · decide
  · rw [BitVec.toNat_add, hone]
    omega

/-- RESTORE's line numbers lie within the restored frame (46_host_operations.md R534). -/
theorem clampLine_toNat (pmode : Word) (l : BitVec 9) :
    (clampLine pmode l).toNat = min l.toNat (lineCount pmode - 1) := by
  have hcount := lineCount_le pmode
  rw [clampLine, BitVec.toNat_ofNat]
  omega

theorem clampLine_toNat_le (pmode : Word) (l : BitVec 9) : (clampLine pmode l).toNat ≤ 262 := by
  have hcount := lineCount_le pmode
  rw [clampLine_toNat]
  omega

theorem one_le_clampNat (n : Nat) {hi : Nat} (h : 1 ≤ hi) : 1 ≤ clampNat n 1 hi := le_min (le_max_right n 1) h

theorem one_le_duration (c : Params) (ph : Phase) (d m : Bool) : 1 ≤ c.duration ph d m := Nat.le_max_left ..

theorem one_le_hsEvery (c : Params) : 1 ≤ c.hsEvery := Nat.le_max_left ..

theorem divOf_pos (c : Params) (d : Bool) : 0 < c.divOf d := Nat.lt_of_lt_of_le Nat.zero_lt_one (Nat.le_max_left _ _)

theorem mod_divOf_lt (c : Params) (d : Bool) (n : Nat) : n % c.divOf d < max (c.divOf false) (c.divOf true) := by
  have h := Nat.mod_lt n (divOf_pos c d)
  cases d <;> omega

theorem tileAdvance_timing (c : Nat) (s : State) :
    (tileAdvance c s).timing =
      { s.timing with divrem := (s.timing.divrem + c) % s.cfg.divOf (dotClock s.pic.pmode) } := by
  unfold tileAdvance
  dsimp only
  split <;> simp

theorem lineStep_timing (s : State) :
    ∃ odd, (lineStep s).timing = { s.timing with raster := nextRaster s.pic.pmode s.timing.raster, odd := odd } := by
  unfold lineStep frameBoundary
  dsimp only
  split
  · exact ⟨_, by simp; rfl⟩
  · exact ⟨_, by simp; rfl⟩

theorem countersBounded_keptByParts : KeptByParts CountersBounded where
  setRequests _ _ h := h
  setReply _ _ h := h
  reevalIrq s h := by simpa [CountersBounded] using h
  tileAdvance c s h := by
    obtain ⟨hraster, hline, hhscnt, -⟩ := h
    simp only [CountersBounded, tileAdvance_timing, tileAdvance_rc, tileAdvance_cfg]
    exact ⟨hraster, hline, hhscnt, mod_divOf_lt _ _ _⟩
  countDown c s h := by
    obtain ⟨hraster, hline, hhscnt, hdiv⟩ := h
    exact ⟨hraster, hline, Nat.le_trans (Nat.sub_le _ _) hhscnt, hdiv⟩
  setPhase ph s h := h
  setPhaseCount s h := h
  enterP1 s h := by simpa [CountersBounded] using h
  lineStep s h := by
    obtain ⟨-, hline, hhscnt, hdiv⟩ := h
    obtain ⟨odd, htiming⟩ := lineStep_timing s
    simp only [CountersBounded, htiming, lineStep_rc, lineStep_cfg]
    exact ⟨nextRaster_toNat_le _ _, hline, hhscnt, hdiv⟩
  latch s h := by
    obtain ⟨hraster, -, hrest⟩ := h
    exact ⟨hraster, hraster, hrest⟩
  bgStep s h := by simpa [CountersBounded] using h
  overlayLine s h := by simpa [CountersBounded] using h
  clearTileBuffer s h := h
  handshakeTick s h := by simpa [CountersBounded] using h
  reloadHscnt s h := by
    obtain ⟨hraster, hline, -, hdiv⟩ := h
    exact ⟨hraster, hline, Nat.le_refl _, hdiv⟩
  extService s h := by simpa [CountersBounded] using h

/-! Each service leaves the counter it watches at least 1, and the later ones leave that counter alone. -/

theorem one_le_hcnt_servicePhase (s : State) : 1 ≤ (servicePhase s).timing.hcnt := by
  have hduration (u : State) : 1 ≤ (setPhaseCount u).timing.hcnt := one_le_duration ..
  unfold servicePhase
  split
  · rw [reevalIrq_timing]
    unfold phaseStep
    split <;> exact hduration _
  · exact Nat.one_le_iff_ne_zero.2 ‹_›

theorem serviceHandshake_hcnt (s : State) : (serviceHandshake s).timing.hcnt = s.timing.hcnt := by
  unfold serviceHandshake
  split <;> simp

theorem one_le_hscnt_serviceHandshake (s : State) : 1 ≤ (serviceHandshake s).timing.hscnt := by
  unfold serviceHandshake
  split
  · simpa using one_le_hsEvery s.cfg
  · exact Nat.one_le_iff_ne_zero.2 ‹_›

theorem atLeastOne_ne_zero (n : Option Nat) : atLeastOne n ≠ some 0 := by
  cases n <;> simp [atLeastOne]

theorem serviceExternal_extcnt_ne_zero (s : State) : (serviceExternal s).extcnt ≠ some 0 := by
  unfold serviceExternal
  split
  · simpa [extService] using atLeastOne_ne_zero _
  · assumption

theorem countersStarted_service (s : State) : CountersStarted (service s) := by
  unfold service
  refine ⟨?_, ?_, serviceExternal_extcnt_ne_zero _⟩
  · rw [serviceExternal_timing, serviceHandshake_hcnt]
    exact one_le_hcnt_servicePhase s
  · rw [serviceExternal_timing]
    exact one_le_hscnt_serviceHandshake _

theorem countersHold_runClocks {s : State} (h : CountersHold s) (n : Nat) : CountersHold (runClocks n s) := by
  refine runClocks_induction CountersHold (fun c u hu => ?_) n s h
  rw [countersHold_iff] at hu ⊢
  exact ⟨countersBounded_keptByParts.runChunk hu.1 c, countersStarted_service _⟩

theorem countersHold_ofTheBlock : OfTheBlock CountersHold where
  setRequests _ _ h := h
  setReply _ _ h := h
  reevalIrq s h := by simpa [CountersHold] using h

theorem countersHold_doReset (t : Nat) (s : State) : CountersHold (doReset t s) := by
  simp only [CountersHold, doReset_toSnapshot, doReset_cfg, Snapshot.cleared]
  exact ⟨by decide, by decide, one_le_duration .., one_le_hsEvery _, Nat.le_refl _, busNextEvent_ne_zero s,
    lt_max_of_lt_left (divOf_pos _ _)⟩

theorem doRestore_extcnt_ne_zero (x : Snapshot) (s : State) : (doRestore x s).extcnt ≠ some 0 := by
  simpa [doRestore] using busNextEvent_ne_zero _

theorem countersHold_doRestore (x : Snapshot) (s : State) : CountersHold (doRestore x s) := by
  have hext := doRestore_extcnt_ne_zero x s
  simp only [CountersHold, doRestore_toSnapshot, doRestore_cfg, sanitize, clampTiming]
  exact ⟨clampLine_toNat_le .., clampLine_toNat_le .., one_le_clampNat _ (one_le_duration ..),
    one_le_clampNat _ (one_le_hsEvery _), min_le_right .., hext, mod_divOf_lt ..⟩

theorem countersHold_effect {i : Instr} {s e : State} (h : CountersHold s) (he : Effect s i e) : CountersHold e := by
  cases he with
  | run n => exact countersHold_runClocks h n
  | reset t => exact countersHold_doReset t s
  | restore x => exact countersHold_doRestore x s
  | bus b => simpa [CountersHold, b.timing, b.rc, b.extcnt, b.cfg] using h
  | nothing | storeC | storeLo | storeHi | car | kar | seek | push | cursorWrite | cursorAdvance | play | micro =>
    simpa [CountersHold] using h

/-- Settles O53: the stores keep the masks, and after a chunk each service has restarted the counter it watches. -/
theorem everyStepKeepsMasksAndCounters : Obligations.EveryStepKeepsMasksAndCounters := by
  unfold Obligations.EveryStepKeepsMasksAndCounters
  intro s t hmasks hcounters hstep
  exact ⟨step_keeps masksHold_keptByParts.toOfTheBlock masksHold_effect hmasks hstep,
    step_keeps countersHold_ofTheBlock countersHold_effect hcounters hstep⟩

end Sys2Proof.Machine
end

section
/-! Every step keeps the line buffers at W_MAX proper entries, the output rows a map of the visible lines, and RC's
ranks those of RC's registers. -/

namespace Sys2Proof.Machine

/-! ## Rows of the line buffers (10_state.md R73) -/

theorem clearRow_proper (c : Params) : RowProper c (clearRow c) := by
  refine ⟨List.length_replicate .., fun h => ?_⟩
  exact absurd (List.eq_of_mem_replicate h) (by simp)

/-- Four proper rows. -/
def BgRowsProper (c : Params) (r : BgRows) : Prop :=
  RowProper c r.bg0 ∧ RowProper c r.bg1 ∧ RowProper c r.bg2 ∧ RowProper c r.bg3

theorem clearRows_proper (c : Params) : BgRowsProper c (clearRows c) :=
  ⟨clearRow_proper c, clearRow_proper c, clearRow_proper c, clearRow_proper c⟩

theorem fitRows_proper (c : Params) (r : BgRows) : BgRowsProper c (fitRows c r) :=
  ⟨fitRow_proper c _, fitRow_proper c _, fitRow_proper c _, fitRow_proper c _⟩

/-- Line buffers at their lengths, without IDX(0). -/
def LineProper (c : Params) (l : LineBufs) : Prop :=
  l.tbuf.length = c.wMax ∧ RowProper c l.obuf ∧ BgRowsProper c l.bgrows

theorem buffersProper_iff (s : State) : BuffersProper s ↔ LineProper s.cfg s.line := Iff.rfl

theorem lineProper_fitLine (c : Params) (l : LineBufs) : LineProper c (fitLine c l) :=
  ⟨fitTiles_length c _, fitRow_proper c _, fitRows_proper c _⟩

theorem lineProper_cleared (c : Params) (n : Nat) :
    LineProper c { tbuf := clearTiles c, tpos := n, bgrows := clearRows c, obuf := clearRow c } :=
  ⟨List.length_replicate .., clearRow_proper c, clearRows_proper c⟩

theorem tilesPut_length {c : Params} {tbuf : List TileEntry} (h : tbuf.length = c.wMax) (n : Nat)
    (px : List TileEntry) :
    (tilesPut c tbuf n px).length = c.wMax := by
  unfold tilesPut
  split
  · exact fitTiles_length c _
  · exact h

/-- The rows a collaborator answers are proper (log 13). -/
theorem bgRender_proper (l : BitVec 9) (s : State) : BgRowsProper s.cfg (bgRender l s).1 := by
  unfold bgRender
  dsimp only
  split <;> exact fitRows_proper ..

theorem ovlFetchRaster_proper (l : BitVec 9) (b : BitVec 10) (s : State) :
    RowProper s.cfg (ovlFetchRaster l b s).1 := by
  unfold ovlFetchRaster
  dsimp only
  split <;> exact fitRow_proper ..

section
variable {s : State} (h : BuffersProper s)
include h

theorem buffersProper_tileAdvance (c : Nat) : BuffersProper (tileAdvance c s) := by
  obtain ⟨htiles, hrest⟩ := h
  rw [buffersProper_iff, tileAdvance_cfg]
  unfold tileAdvance
  dsimp only
  split
  · simp only [State.setLine_line, tileRun_line, tileRun_cfg, State.setTiming_line, State.setTiming_cfg]
    exact ⟨tilesPut_length htiles _ _, hrest⟩
  · simp only [tileRun_line, State.setTiming_line]
    exact ⟨htiles, hrest⟩

theorem buffersProper_bgStep : BuffersProper (bgStep s) := by
  obtain ⟨htiles, hovl, -⟩ := h
  rw [buffersProper_iff, bgStep_cfg]
  unfold bgStep
  dsimp only
  split
  · simp only [State.setLine_line, bgRender_line]
    exact ⟨htiles, hovl, bgRender_proper ..⟩
  · exact ⟨htiles, hovl, clearRows_proper _⟩

theorem buffersProper_overlayLine : BuffersProper (overlayLine s) := by
  obtain ⟨htiles, -, hbg⟩ := h
  rw [buffersProper_iff, overlayLine_cfg]
  unfold overlayLine
  dsimp only
  have hblock (p : Prop) [Decidable p] : (if p then s else overlayBlock s).line = s.line ∧
      (if p then s else overlayBlock s).cfg = s.cfg := by
    split <;> simp
  obtain ⟨hline, hcfg⟩ := hblock (s.ovl.blocks = 0)
  split
  · simp only [State.setLine_line, ovlFetchRaster_line, hline]
    exact ⟨htiles, hcfg ▸ ovlFetchRaster_proper .., hbg⟩
  · exact ⟨htiles, clearRow_proper _, hbg⟩

theorem buffersProper_clearTileBuffer : BuffersProper (clearTileBuffer s) := by
  obtain ⟨-, hrest⟩ := h
  exact ⟨List.length_replicate .., hrest⟩

end

/-! ## The output rows as a map (10_state.md R74) -/

/-- Rows by rising line, all of them among the first `n` lines. -/
def RowsBelow (n : Nat) (rows : List OutRow) : Prop :=
  (rows.map Prod.fst).Pairwise (· < ·) ∧ ∀ r ∈ rows, r.1 < n

theorem rowsBelow_cons {n : Nat} {r : OutRow} {rows : List OutRow} :
    RowsBelow n (r :: rows) ↔ (r.1 < n ∧ ∀ q ∈ rows, r.1 < q.1) ∧ RowsBelow n rows := by
  simp only [RowsBelow, List.map_cons, List.pairwise_cons, List.forall_mem_map, List.forall_mem_cons]
  tauto

theorem mem_rowsPut {n : Nat} {row : List Rgb24} {q : OutRow} {rows : List OutRow} (h : q ∈ rowsPut n row rows) :
    q.1 = n ∨ q ∈ rows := by
  induction rows with
  | nil => exact .inl (congrArg Prod.fst (List.mem_singleton.1 h))
  | cons r rest ih =>
    unfold rowsPut at h
    split at h
    · exact (List.mem_cons.1 h).imp_left (congrArg Prod.fst)
    · split at h
      · exact (List.mem_cons.1 h).imp (congrArg Prod.fst) (List.mem_cons_of_mem r)
      · obtain rfl | h := List.mem_cons.1 h
        · exact .inr List.mem_cons_self
        · exact (ih h).imp_right (List.mem_cons_of_mem r)

/-- Storing a visible line keeps the rows a map. -/
theorem rowsBelow_rowsPut {n k : Nat} (hk : k < n) (row : List Rgb24) {rows : List OutRow} (h : RowsBelow n rows) :
    RowsBelow n (rowsPut k row rows) := by
  induction rows with
  | nil => exact rowsBelow_cons.2 ⟨⟨hk, fun _ hq => nomatch hq⟩, h⟩
  | cons r rest ih =>
    obtain ⟨⟨hr, hlt⟩, hrest⟩ := rowsBelow_cons.1 h
    unfold rowsPut
    split
    next hkr =>
      refine rowsBelow_cons.2 ⟨⟨hk, fun q hq => ?_⟩, h⟩
      obtain rfl | hq := List.mem_cons.1 hq
      · exact hkr
      · exact hkr.trans (hlt q hq)
    next hkr =>
      split
      next hrk => exact rowsBelow_cons.2 ⟨⟨hk, fun q hq => hrk ▸ hlt q hq⟩, hrest⟩
      next hrk =>
        refine rowsBelow_cons.2 ⟨⟨hr, fun q hq => ?_⟩, ih hrest⟩
        obtain hq | hq := mem_rowsPut hq
        · omega
        · exact hlt q hq

theorem rowsBelow_canonicalRows (c : Params) (rows : List OutRow) :
    RowsBelow c.visibleLines (canonicalRows c rows) := by
  induction rows with
  | nil => exact ⟨.nil, fun _ h => nomatch h⟩
  | cons r rest ih =>
    unfold canonicalRows
    split
    · exact rowsBelow_rowsPut ‹_› _ ih
    · exact ih

theorem rowsSorted_iff (s : State) : RowsSorted s ↔ RowsBelow s.cfg.visibleLines s.out.rows := Iff.rfl

/-- A visible line is among the first VIS_COUNT rows (42_timing_scheduler.md R373). -/
theorem sub_firstVisible_lt {c : Params} {l : BitVec 9} (h : visible c l = true) :
    l.toNat - c.firstVisible < c.visibleLines := by
  have hvisible := of_decide_eq_true h
  omega

theorem rowsSorted_enterP1 {s : State} (h : RowsSorted s) : RowsSorted (enterP1 s) := by
  rw [rowsSorted_iff, enterP1_cfg]
  unfold enterP1
  dsimp only
  split
  · exact rowsBelow_rowsPut (sub_firstVisible_lt ‹_›) _ h
  · exact h

theorem rowsSorted_lineStep {s : State} (h : RowsSorted s) : RowsSorted (lineStep s) := by
  have hrows : (lineStep s).out.rows = s.out.rows := by
    unfold lineStep frameBoundary
    dsimp only
    split <;> simp
  rwa [rowsSorted_iff, lineStep_cfg, hrows]

/-! ## What every step keeps of the display -/

/-- The line buffers proper, the output rows a map, RC's ranks resolved. -/
def DisplayProper (s : State) : Prop := BuffersProper s ∧ RowsSorted s ∧ RanksResolved s

theorem displayProper_keptByParts : KeptByParts DisplayProper where
  setRequests _ _ h := h
  setReply _ _ h := h
  reevalIrq s h := by simpa [DisplayProper, BuffersProper, RowsSorted, RanksResolved] using h
  tileAdvance c s h := by
    obtain ⟨hbuffers, hrest⟩ := h
    exact ⟨buffersProper_tileAdvance hbuffers c, by simpa [RowsSorted, RanksResolved] using hrest⟩
  countDown c s h := h
  setPhase ph s h := h
  setPhaseCount s h := h
  enterP1 s h := by
    obtain ⟨hbuffers, hrows, hranks⟩ := h
    exact ⟨by simpa [BuffersProper] using hbuffers, rowsSorted_enterP1 hrows, by simpa [RanksResolved] using hranks⟩
  lineStep s h := by
    obtain ⟨hbuffers, hrows, hranks⟩ := h
    exact ⟨by simpa [BuffersProper] using hbuffers, rowsSorted_lineStep hrows, by simpa [RanksResolved] using hranks⟩
  latch s h := by
    obtain ⟨hbuffers, hrows, -⟩ := h
    exact ⟨hbuffers, hrows, rfl⟩
  bgStep s h := by
    obtain ⟨hbuffers, hrest⟩ := h
    exact ⟨buffersProper_bgStep hbuffers, by simpa [RowsSorted, RanksResolved] using hrest⟩
  overlayLine s h := by
    obtain ⟨hbuffers, hrest⟩ := h
    exact ⟨buffersProper_overlayLine hbuffers, by simpa [RowsSorted, RanksResolved] using hrest⟩
  clearTileBuffer s h := by
    obtain ⟨hbuffers, hrest⟩ := h
    exact ⟨buffersProper_clearTileBuffer hbuffers, hrest⟩
  handshakeTick s h := by simpa [DisplayProper, BuffersProper, RowsSorted, RanksResolved] using h
  reloadHscnt s h := h
  extService s h := by simpa [DisplayProper, BuffersProper, RowsSorted, RanksResolved] using h

theorem displayProper_doReset (t : Nat) (s : State) : DisplayProper (doReset t s) := by
  rw [DisplayProper, buffersProper_iff, rowsSorted_iff, RanksResolved, doReset_toSnapshot, doReset_cfg, doReset_rcd]
  refine ⟨lineProper_cleared s.cfg 0, ⟨.nil, fun _ h => nomatch h⟩, ?_⟩
  show Ranks.zero = resolveRanks PicRegs.zero
  decide

theorem displayProper_doRestore (x : Snapshot) (s : State) : DisplayProper (doRestore x s) := by
  rw [DisplayProper, buffersProper_iff, rowsSorted_iff, RanksResolved, doRestore_toSnapshot, doRestore_cfg,
    doRestore_rcd]
  exact ⟨lineProper_fitLine _ _, rowsBelow_canonicalRows _ _, rfl⟩

theorem displayProper_effect {i : Instr} {s e : State} (h : DisplayProper s) (he : Effect s i e) : DisplayProper e := by
  cases he with
  | run n => exact displayProper_keptByParts.runClocks h n
  | reset t => exact displayProper_doReset t s
  | restore x => exact displayProper_doRestore x s
  | bus b => simpa [DisplayProper, BuffersProper, RowsSorted, RanksResolved, b.line, b.out, b.rc, b.rcd, b.cfg] using h
  | nothing | storeC | storeLo | storeHi | car | kar | seek | push | cursorWrite | cursorAdvance | play | micro =>
    simpa [DisplayProper, BuffersProper, RowsSorted, RanksResolved] using h

/-- Settles O54: the parts of a chunk that store rows or ranks store proper ones, and so do RESET and RESTORE. -/
theorem everyStepKeepsTheBuffersProper : Obligations.EveryStepKeepsTheBuffersProper := by
  unfold Obligations.EveryStepKeepsTheBuffersProper
  intro s t hbuffers hrows hranks hstep
  exact step_keeps displayProper_keptByParts.toOfTheBlock displayProper_effect ⟨hbuffers, hrows, hranks⟩ hstep

end Sys2Proof.Machine
end

section
/-! RESTORE, field by field (46_host_operations.md R533, R534). -/

namespace Sys2Proof.Machine

@[simp] theorem reevalIrq_toSnapshot (s : State) : (reevalIrq s).toSnapshot = s.toSnapshot := by
  unfold reevalIrq
  split <;> rfl

/-! ## The parts of RESTORE that its statement names -/

/-- The draw of the next event and the forwarded outputs, in this order, are the only traffic of RESTORE (log 26). -/
theorem doRestore_traffic (x : Snapshot) (s : State) :
    (∃ next : Option Nat, Answered s.script.nextEvents [next] ∧ (doRestore x s).extcnt = next.map (max 1)) ∧
      (doRestore x s).script = { s.script with nextEvents := s.script.nextEvents.drop 1 } ∧
      (doRestore x s).calls = (outputChanges s.scsi (maskScsi x.scsi)).reverse ++ .busNextEvent :: s.calls ∧
      (doRestore x s).lastIrq = s.lastIrq := by
  have hform : doRestore x s = forwardOutputs s.scsi (maskScsi x.scsi) (State.setExtcnt _ _) := rfl
  obtain ⟨next, hqueue, hnext, hstate⟩ := busNextEvent_spec
    (((s.setSnapshot (sanitize s.cfg x)).setPcache (pcacheOf (sanitize s.cfg x).palette.pal)).setRcd
      { pcache := pcacheOf (sanitize s.cfg x).palette.pal, rank := resolveRanks (sanitize s.cfg x).rc.pic })
  rw [hform, hstate, hnext, forwardOutputs_eq]
  exact ⟨⟨next, hqueue, rfl⟩, rfl, rfl, rfl⟩

/-- The frame's line count does not depend on the bits of PMODE that are no register bits. -/
theorem lineCount_maskPic (p : PicRegs) : lineCount (maskPic p).pmode = if p.pmode.getLsbD 0 then 263 else 262 := by
  have hbit : line263 (maskPic p).pmode = p.pmode.getLsbD 0 := by simp [line263, maskPic, cMask]
  rw [lineCount, hbit]
  cases p.pmode.getLsbD 0 <;> rfl

theorem line263_maskPic (p : PicRegs) : line263 (maskPic p).pmode = p.pmode.getLsbD 0 := by
  simp [line263, maskPic, cMask]

theorem dotClock_maskPic (p : PicRegs) : dotClock (maskPic p).pmode = p.pmode.getLsbD 3 := by
  simp [dotClock, maskPic, cMask]

/-- Settles O38: the stored fields are those of `sanitize`, the derived ones and the traffic those of `doRestore`. -/
theorem restoreMasksClampsAndRederives : Obligations.RestoreMasksClampsAndRederives := by
  unfold Obligations.RestoreMasksClampsAndRederives
  intro x s
  obtain ⟨hnext, hscript, hcalls, hirq⟩ := doRestore_traffic x s
  obtain ⟨hbuffers, hrows, -⟩ := displayProper_doRestore x s
  refine ⟨reevalIrq ((doRestore x s).setReply .nothing), ?_⟩
  intro d n
  refine ⟨complete_eq _, ?_⟩
  simp only [reevalIrq_toSnapshot, State.setReply_toSnapshot, doRestore_toSnapshot, reevalIrq_pcache,
    State.setReply_pcache, doRestore_pcache, reevalIrq_rcd, State.setReply_rcd, doRestore_rcd, reevalIrq_extcnt,
    State.setReply_extcnt, reevalIrq_script, State.setReply_script, hscript, reevalIrq_cfg, reevalIrq_requests, State.setReply_cfg,
    State.setReply_requests, doRestore_cfg, doRestore_requests]
  refine ⟨rfl, rfl, rfl, rfl, fun i => ⟨pcacheGet_pcacheOf_low .., pcacheGet_pcacheOf_high ..⟩, trivial, rfl, rfl,
    ?_, ?_, rfl, rfl, rfl, ?_, rfl, ?_, rfl, rfl, rfl, rfl, rfl, rfl, rfl, rfl, rfl, Memory.wf_canonical _,
    Memory.canonical_of_wf, ?_, rfl, fitRow_of_proper, fitRow_of_proper, fitRow_of_proper, fitRow_of_proper,
    fitRow_of_proper, ?_, lookup_canonicalRows _ _, rfl, rfl, rfl, rfl, hnext, trivial, trivial, trivial, ?_, ?_⟩
  · exact (clampLine_toNat ..).trans (by rw [lineCount_maskPic])
  · exact (clampLine_toNat ..).trans (by rw [lineCount_maskPic])
  · show clampNat _ _ (s.cfg.duration _ (dotClock (maskPic x.pic).pmode) (line263 (maskPic x.pic).pmode)) = _
    rw [dotClock_maskPic, line263_maskPic]
    rfl
  · show _ % s.cfg.divOf (dotClock (maskPic x.pic).pmode) = _
    rw [dotClock_maskPic]
  · simpa [BuffersProper] using hbuffers
  · simpa [RowsSorted] using hrows
  · simp
  · rw [reevalIrq_calls]
    simp only [State.setReply_lastIrq, State.setReply_calls, irqLevel_setReply, irqLevel_reevalIrq, hirq, hcalls,
      eq_comm (a := s.lastIrq)]
    split <;> rfl

end Sys2Proof.Machine
end

section
/-! The bus: a decode key field by field, 16-bit and 8-bit accesses, accesses with no effect, and the KRAM data port
(20_memory.md R101 to R105, R109; 30_encoding.md R141; 41_memory_dma_registers.md R296). -/

namespace Sys2Proof.Machine

/-! ## The fields of a built key (30_encoding.md R141) -/

section
variable (cmd : BitVec 4) (size : Size) (space : BitVec 3) (port half lane : Bool) (sel : BitVec 7)

/-- A built key bit by bit, from SEL up. -/
theorem getLsbD_mkKey (j : Nat) :
    (mkKey cmd size space port half lane sel).getLsbD j =
      if j < 7 then sel.getLsbD j
      else if j < 13 then false
      else if j = 13 then lane
      else if j = 14 then half
      else if j = 15 then port
      else if j < 19 then space.getLsbD (j - 16)
      else if j = 19 then decide (size = .half)
      else cmd.getLsbD (j - 20) := by
  refine (BitVec.getLsbD_append ..).trans ?_
  simp only [BitVec.getLsbD_append]
  obtain hj | hj := Nat.lt_or_ge j 24
  · interval_cases j <;> cases size <;> simp
  · grind

@[simp] theorem keySpace_mkKey : keySpace (mkKey cmd size space port half lane sel) = space := by
  ext j hj
  refine (BitVec.getElem_extractLsb' _).trans ((getLsbD_mkKey ..).trans ?_)
  interval_cases j <;> rfl

@[simp] theorem keySel_mkKey : keySel (mkKey cmd size space port half lane sel) = sel := by
  ext j hj
  refine (BitVec.getElem_extractLsb' _).trans ((getLsbD_mkKey ..).trans ?_)
  interval_cases j <;> rfl

@[simp] theorem keyPort_mkKey : keyPort (mkKey cmd size space port half lane sel) = port := getLsbD_mkKey ..
@[simp] theorem keyHalf_mkKey : keyHalf (mkKey cmd size space port half lane sel) = half := getLsbD_mkKey ..
@[simp] theorem keyLane_mkKey : keyLane (mkKey cmd size space port half lane sel) = lane := getLsbD_mkKey ..

theorem sizeBit_mkKey : (mkKey cmd size space port half lane sel).getLsbD 19 = decide (size = .half) := getLsbD_mkKey ..

theorem unusedBits_mkKey : (mkKey cmd size space port half lane sel).extractLsb' 7 6 = 0#6 := by
  ext j hj
  refine (BitVec.getElem_extractLsb' _).trans ((getLsbD_mkKey ..).trans ?_)
  interval_cases j <;> simp

end

/-! ## The key of a bus request -/

theorem selOf_addressPort (s : State) (space : BitVec 3) : selOf s space false = 0 := rfl
theorem selOf_controllerPort (s : State) : selOf s 0b011#3 true = s.car.setWidth 7 := rfl
theorem selOf_memoryPort (s : State) : selOf s 0b110#3 true = s.kar := rfl

/-- A[10:8] as a number (20_memory.md R101). -/
theorem addrSpace_eq_iff {a n : Nat} : addrSpace a = BitVec.ofNat 3 n ↔ a / 256 % 8 = n % 8 := by
  simp [addrSpace, ← BitVec.toNat_inj]

/-- SEL of an access at address `a` (30_encoding.md R141): 0 at the address port, CAR or KAR at the data port. -/
theorem selOf_addr (s : State) (a : Nat) :
    (a.testBit 2 = false → selOf s (addrSpace a) (addrPort a) = 0) ∧
      (a.testBit 2 = true → a / 256 % 8 = 3 → selOf s (addrSpace a) (addrPort a) = s.car.setWidth 7) ∧
      (a.testBit 2 = true → a / 256 % 8 = 6 → selOf s (addrSpace a) (addrPort a) = s.kar) := by
  unfold addrPort
  refine ⟨fun hport => ?_, fun hport hspace => ?_, fun hport hspace => ?_⟩
  · rw [hport, selOf_addressPort]
  · have hthree : addrSpace a = 0b011#3 := addrSpace_eq_iff.2 hspace
    rw [hport, hthree, selOf_controllerPort]
  · have hsix : addrSpace a = 0b110#3 := addrSpace_eq_iff.2 hspace
    rw [hport, hsix, selOf_memoryPort]

/-- The key of a bus request, its CMD telling a read from a write (30_encoding.md R141). -/
theorem requestKey_of_access (s : State) {t a : Nat} {size : Size} {v : Word} {r : Request}
    (hr : r = .read t a size ∨ r = .write t a size v) :
    requestKey s r = busKey s (if r = .read t a size then 0#4 else 1#4) a size := by
  obtain rfl | rfl := hr
  · rw [if_pos rfl]; rfl
  · rw [if_neg (by simp)]; rfl

/-- Settles O4: the key of a bus request is a built key, whose fields are the arguments it was built from. -/
theorem requestKeyHoldsTheAccessFields : Obligations.RequestKeyHoldsTheAccessFields := by
  unfold Obligations.RequestKeyHoldsTheAccessFields
  intro s t a size v r hr
  obtain ⟨haddress, hcontroller, hmemory⟩ := selOf_addr s a
  have hsel : (requestKey s r).extractLsb' 0 7 = selOf s (addrSpace a) (addrPort a) := by
    rw [requestKey_of_access s hr]
    exact keySel_mkKey ..
  rw [hsel, requestKey_of_access s hr]
  exact ⟨keyCmd_mkKey .., sizeBit_mkKey .., keySpace_mkKey .., keyPort_mkKey .., keyHalf_mkKey .., keyLane_mkKey ..,
    unusedBits_mkKey .., haddress, hcontroller, hmemory⟩

/-! ## Accesses at one place (20_memory.md R101, R102, R105) -/

/-- The addresses agree in A[10:8], A[2] and A[1], all that selects what an access reaches (20_memory.md R101). -/
structure SamePlace (a b : Nat) : Prop where
  space : addrSpace a = addrSpace b
  port : addrPort a = addrPort b
  half : addrHalf a = addrHalf b

theorem samePlace_of_mod {a b : Nat} (hspace : a / 256 % 8 = b / 256 % 8) (hport : a / 2 % 4 = b / 2 % 4) :
    SamePlace a b where
  space := addrSpace_eq_iff.2 hspace
  port := by
    simp only [addrPort, Nat.testBit_eq_decide_div_mod_eq, decide_eq_decide]
    omega
  half := by
    simp only [addrHalf, Nat.testBit_eq_decide_div_mod_eq, decide_eq_decide]
    omega

/-- Clearing A[0] stays at the place. -/
theorem samePlace_even (a : Nat) : SamePlace a (2 * (a / 2)) := samePlace_of_mod (by omega) (by omega)

theorem addrLane_eq (a : Nat) : addrLane a = decide (a % 2 = 1) := Nat.testBit_zero a

/-- No row looks at SZ or LANE (30_encoding.md R143). -/
theorem decode_mkKey_size_lane (cmd : BitVec 4) (space : BitVec 3) (port half : Bool) (sel : BitVec 7)
    (size size' : Size) (lane lane' : Bool) (x : Args) :
    decode (mkKey cmd size space port half lane sel) x = decode (mkKey cmd size' space port half lane' sel) x := by
  simp only [decode, decodeRead, decodeWrite, keyCmd_mkKey, keySpace_mkKey, keyPort_mkKey, keyHalf_mkKey, keySel_mkKey]

/-- Accesses at one place select the same row, whatever their widths. -/
theorem decode_busKey_congr {a b : Nat} (h : SamePlace a b) (s : State) (cmd : BitVec 4) (size size' : Size)
    (x : Args) :
    decode (busKey s cmd a size) x = decode (busKey s cmd b size') x := by
  unfold busKey
  rw [h.space, h.port, h.half]
  exact decode_mkKey_size_lane ..

/-- A write hands the host nothing to narrow. -/
theorem finishRequest_write (t a : Nat) (size : Size) (v : Word) (o : Host.Outcome State Fault Refusal) :
    finishRequest (.write t a size v) o = o := by
  cases o <;> rfl

/-- The 16-bit result of a 16-bit read is handed on as it is. -/
theorem finishRequest_read_half (t a : Nat) (o : Host.Outcome State Fault Refusal) :
    finishRequest (.read t a .half) o = o := by
  cases o with
  | next u =>
    have hreply : narrowReply (.read t a .half) u = u := by
      unfold narrowReply
      split
      next hr hw =>
        obtain ⟨-, -, rfl⟩ := Request.read.inj hr
        rw [readResult, ← hw]
        rfl
      · rfl
    rw [finishRequest, hreply]
  | fault f => rfl
  | refused e => rfl

/-- Writes of one 16-bit value at one place do the same. -/
theorem perform_write_congr {a b : Nat} (h : SamePlace a b) {size size' : Size} {v w : Word}
    (hvalue : writeValue size (addrLane a) v = writeValue size' (addrLane b) w) (t : Nat) (s : State) :
    perform (.write t a size v) s = perform (.write t b size' w) s := by
  have hcatch : catchUp (.write t a size v) s = catchUp (.write t b size' w) s := rfl
  have hargs : requestArgs (.write t a size v) = requestArgs (.write t b size' w) := by
    simp only [requestArgs, hvalue]
  have hkey (u : State) : decode (requestKey u (.write t a size v)) (requestArgs (.write t b size' w)) =
      decode (requestKey u (.write t b size' w)) (requestArgs (.write t b size' w)) :=
    decode_busKey_congr h ..
  simp only [perform, hcatch, hargs, hkey, finishRequest_write]

/-- A read is the 16-bit read at its place, of which the host is handed its part (20_memory.md R102). -/
theorem perform_read_eq_finishRequest {a b : Nat} (h : SamePlace a b) (size : Size) (t : Nat) (s : State) :
    perform (.read t a size) s = finishRequest (.read t a size) (perform (.read t b .half) s) := by
  have hcatch : catchUp (.read t a size) s = catchUp (.read t b .half) s := rfl
  have hdecode (u : State) : decode (requestKey u (.read t a size)) (requestArgs (.read t a size)) =
      decode (requestKey u (.read t b .half)) (requestArgs (.read t b .half)) :=
    decode_busKey_congr h ..
  simp only [perform, hcatch, hdecode, finishRequest_read_half]
  split
  · rfl
  · split <;> rfl

/-- Settles O10: a 16-bit access has the value and the result of its place, whatever its lane. -/
theorem otherAddressBitsAreIgnored : Obligations.OtherAddressBitsAreIgnored := by
  unfold Obligations.OtherAddressBitsAreIgnored
  intro s t a b v hspace hport
  have hplace := samePlace_of_mod hspace hport
  exact ⟨(perform_read_eq_finishRequest hplace .half t s).trans (finishRequest_read_half ..),
    perform_write_congr hplace rfl t s⟩

/-! ## Bytes of 16-bit accesses (20_memory.md R102) -/

/-- The instruction returns a 16-bit value in every state. -/
def ReturnsWord (i : Instr) : Prop := ∀ s, ∃ w e, exec i s = answer w e

theorem returnsWord_cReadRow (sel : BitVec 7) : ReturnsWord (cReadRow sel) := by
  intro s
  unfold cReadRow
  split <;> exact ⟨_, _, rfl⟩

theorem returnsWord_kReadHiRow (sel : BitVec 7) : ReturnsWord (kReadHiRow sel) := by
  intro s
  unfold kReadHiRow
  split <;> exact ⟨_, _, rfl⟩

theorem returnsWord_rdSackLo : ReturnsWord .rdSackLo := by
  intro s
  show ∃ w e, execRdSackLo s = answer w e
  unfold execRdSackLo
  split <;> exact ⟨_, _, rfl⟩

theorem returnsWord_kReadLoRow (sel : BitVec 7) : ReturnsWord (kReadLoRow sel) := by
  intro s
  unfold kReadLoRow
  split
  case h_9 => exact returnsWord_rdSackLo s
  all_goals exact ⟨_, _, rfl⟩

/-- Every row of a read returns a 16-bit value (30_encoding.md R145). -/
theorem returnsWord_decodeRead (k : Key) : ReturnsWord (decodeRead k) := by
  unfold decodeRead
  split_ifs
  · exact fun s => ⟨_, _, rfl⟩
  · exact fun s => ⟨_, _, rfl⟩
  · exact returnsWord_cReadRow _
  · exact fun s => ⟨_, _, rfl⟩
  · exact returnsWord_kReadHiRow _
  · exact returnsWord_kReadLoRow _
  · exact fun s => ⟨_, _, rfl⟩

theorem decode_busKey_read (s : State) (a : Nat) (size : Size) (x : Args) :
    decode (busKey s 0 a size) x = .ok (decodeRead (busKey s 0 a size)) := by
  simp [decode, busKey, keyCmd_mkKey]

/-- A performed 16-bit read leaves its result in the reply. -/
theorem reply_of_perform_read_half {t a : Nat} {s u : State} (h : perform (.read t a .half) s = .next u) :
    ∃ w, u.reply = .word w := by
  unfold perform at h
  split at h
  · nomatch h
  next s1 _ =>
    obtain ⟨w, e, hexec⟩ := returnsWord_decodeRead (busKey s1 0 a .half) s1
    simp only [requestKey, decode_busKey_read, finishRequest_read_half, hexec, answer_eq, Host.Outcome.next.injEq] at h
    exact ⟨w, by rw [← h]; simp⟩

/-- The byte of a word that an 8-bit read returns, by its lane. -/
theorem readResult_byte (a : Nat) (w : Word) :
    readResult .byte (addrLane a) w = .byte (if a % 2 = 0 then w.extractLsb' 0 8 else w.extractLsb' 8 8) := by
  obtain h | h := Nat.mod_two_eq_zero_or_one a <;> simp [readResult, addrLane_eq, h, lowByte, highByte]

/-- The low byte of a zero-extended byte. -/
theorem lowByte_setWidth (v : Byte) : lowByte (v.setWidth 16) = v := by
  simp [lowByte, ← BitVec.setWidth_eq_extractLsb']

/-- The 16-bit value that an 8-bit write stands for, by its lane. -/
theorem writeValue_byte (a : Nat) (v : Byte) :
    writeValue .byte (addrLane a) (v.setWidth 16) =
      if a % 2 = 0 then v.setWidth 16 else v.setWidth 16 <<< 8 := by
  obtain h | h := Nat.mod_two_eq_zero_or_one a <;> simp [writeValue, addrLane_eq, h, byteWord, lowByte_setWidth]

/-- Settles O9: an 8-bit access is the 16-bit one with A[0] = 0, its byte in the lane that A[0] names. -/
theorem byteAccessIsOneSplitAccess : Obligations.ByteAccessIsOneSplitAccess := by
  unfold Obligations.ByteAccessIsOneSplitAccess
  refine ⟨fun s t a v => ?_, fun s u t a h => ?_, fun s t a e h => ?_⟩
  · exact perform_write_congr (samePlace_even a) (writeValue_byte a v) t s
  · obtain ⟨w, hw⟩ := reply_of_perform_read_half h
    refine ⟨w, hw, ?_⟩
    rw [perform_read_eq_finishRequest (samePlace_even a), h, ← readResult_byte]
    simp only [finishRequest, narrowReply, hw]
  · rw [perform_read_eq_finishRequest (samePlace_even a), h]
    rfl

/-! ## Accesses with no effect (20_memory.md R104; 40_controller_registers.md R202; 41_memory_dma_registers.md R263) -/

/-- Settles O16: the writes are `inertWrite`, the reads `unknownRead`. -/
theorem unknownAndNoSpaceAccessesHaveNoEffect : Obligations.UnknownAndNoSpaceAccessesHaveNoEffect := by
  unfold Obligations.UnknownAndNoSpaceAccessesHaveNoEffect
  intro sel high space v s
  exact ⟨completes_of_complete rfl, completes_of_answer rfl, completes_of_complete rfl, completes_of_answer rfl,
    completes_of_complete rfl, completes_of_answer rfl⟩

/-! ## The KRAM data port (41_memory_dma_registers.md R296; 20_memory.md R109) -/

/-- Settles O30: the write is `cursorWrite`, whose new KRAM is one `memWrite`. -/
theorem kramDataWriteStoresOneWord : Obligations.KramDataWriteStoresOneWord := by
  unfold Obligations.KramDataWriteStoresOneWord
  intro v s hkram
  have hwrite : exec (.wrKramdataLo v) s = complete (cursorWrite v s) := rfl
  exact ⟨memWrite s.kram (bankCpu s.kctl) (cursorAddr s.kctl.wa) v, completes_of_complete hwrite,
    memWrite_wf _ _ v hkram, memRead_memWrite_same _ _ v hkram,
    fun _ hlow hhigh => memWrite_readByte_other _ _ _ v hlow hhigh⟩

end Sys2Proof.Machine
end

section
/-! Encoding: when a key fits a row, what the decoder selects for a key, decoding what was encoded, and what the address
registers and half reads hold (30_encoding.md R140 to R152). -/

namespace Sys2Proof.Machine

/-! ## What a row looks at (30_encoding.md R141, R142) -/

/-- A key masked by a built key keeps, of each field, the bits that the mask has in it. -/
theorem and_mkKey (k : Key) (cmd : BitVec 4) (space : BitVec 3) (port half : Bool) (sel : BitVec 7) :
    k &&& mkKey cmd .byte space port half false sel =
      mkKey (keyCmd k &&& cmd) .byte (keySpace k &&& space) (keyPort k && port) (keyHalf k && half) false
        (keySel k &&& sel) := by
  apply BitVec.eq_of_getLsbD_eq
  intro j hj
  rw [BitVec.getLsbD_and, getLsbD_mkKey, getLsbD_mkKey]
  interval_cases j <;> simp [keyCmd, keySpace, keyPort, keyHalf, keySel]

/-- A built key is its fields. -/
theorem mkKey_inj {cmd cmd' : BitVec 4} {size : Size} {space space' : BitVec 3} {port port' half half' lane : Bool}
    {sel sel' : BitVec 7} :
    mkKey cmd size space port half lane sel = mkKey cmd' size space' port' half' lane sel' ↔
      cmd = cmd' ∧ space = space' ∧ port = port' ∧ half = half' ∧ sel = sel' := by
  constructor
  · intro h
    exact ⟨by simpa only [keyCmd_mkKey] using congrArg keyCmd h, by simpa using congrArg keySpace h,
      by simpa using congrArg keyPort h, by simpa using congrArg keyHalf h, by simpa using congrArg keySel h⟩
  · rintro ⟨rfl, rfl, rfl, rfl, rfl⟩
    rfl

section
variable {k : Key} {cmd cmdMask : BitVec 4} {space spaceMask : BitVec 3} {port half portMask halfMask : Bool}
  {sel selMask : BitVec 7}

/-- Fitting a row, field by field. -/
theorem fits_mkKey_iff :
    Row.fits
        ⟨mkKey cmd .byte space port half false sel, mkKey cmdMask .byte spaceMask portMask halfMask false selMask⟩ k ↔
      keyCmd k &&& cmdMask = cmd ∧ keySpace k &&& spaceMask = space ∧ (keyPort k && portMask) = port ∧
        (keyHalf k && halfMask) = half ∧ keySel k &&& selMask = sel := by
  rw [Row.fits, beq_iff_eq, and_mkKey, mkKey_inj]

/-- A row of one sub-register's half looks at every field. -/
theorem fits_selectorRow_iff :
    Row.fits ⟨mkKey cmd .byte space port half false sel, 0xF7C07F⟩ k ↔
      keyCmd k = cmd ∧ keySpace k = space ∧ keyPort k = port ∧ keyHalf k = half ∧ keySel k = sel :=
  (fits_mkKey_iff (cmdMask := .allOnes 4) (spaceMask := .allOnes 3) (portMask := true) (halfMask := true)
    (selMask := .allOnes 7)).trans (by simp only [BitVec.and_allOnes, Bool.and_true])

/-- The row of a space's high halves does not look at SEL. -/
theorem fits_halfRow_iff :
    Row.fits ⟨mkKey cmd .byte space port half false 0, 0xF7C000⟩ k ↔
      keyCmd k = cmd ∧ keySpace k = space ∧ keyPort k = port ∧ keyHalf k = half :=
  (fits_mkKey_iff (cmdMask := .allOnes 4) (spaceMask := .allOnes 3) (portMask := true) (halfMask := true)
    (selMask := 0)).trans (by simp [-BitVec.reduceAllOnes])

/-- The row of an address port does not look at HALF, either. -/
theorem fits_portRow_iff :
    Row.fits ⟨mkKey cmd .byte space port false false 0, 0xF78000⟩ k ↔
      keyCmd k = cmd ∧ keySpace k = space ∧ keyPort k = port :=
  (fits_mkKey_iff (cmdMask := .allOnes 4) (spaceMask := .allOnes 3) (portMask := true) (halfMask := false)
    (selMask := 0)).trans (by simp [-BitVec.reduceAllOnes])

/-- The row of a space's unknown sub-registers looks at CMD and SPACE. -/
theorem fits_spaceRow_iff :
    Row.fits ⟨mkKey cmd .byte space false false false 0, 0xF70000⟩ k ↔ keyCmd k = cmd ∧ keySpace k = space :=
  (fits_mkKey_iff (cmdMask := .allOnes 4) (spaceMask := .allOnes 3) (portMask := false) (halfMask := false)
    (selMask := 0)).trans (by simp [-BitVec.reduceAllOnes])

/-- The row of a host request or of no space looks at CMD. -/
theorem fits_cmdRow_iff : Row.fits ⟨hostKey cmd, 0xF00000⟩ k ↔ keyCmd k = cmd :=
  (fits_mkKey_iff (cmdMask := .allOnes 4) (spaceMask := 0) (portMask := false) (halfMask := false)
    (selMask := 0)).trans (by simp [-BitVec.reduceAllOnes])

end

/-! The five masks in order of their numbers of 1 bits; those of address ports, high halves and sub-registers are not
compared with one another, for no key fits two of them. -/

theorem cmdRow_shorter_spaceRow (m m' : Key) : Row.weight ⟨m, 0xF00000⟩ < Row.weight ⟨m', 0xF70000⟩ :=
  (by decide : (List.range 24).countP (0xF00000#24).getLsbD < (List.range 24).countP (0xF70000#24).getLsbD)

theorem spaceRow_shorter_portRow (m m' : Key) : Row.weight ⟨m, 0xF70000⟩ < Row.weight ⟨m', 0xF78000⟩ :=
  (by decide : (List.range 24).countP (0xF70000#24).getLsbD < (List.range 24).countP (0xF78000#24).getLsbD)

theorem spaceRow_shorter_halfRow (m m' : Key) : Row.weight ⟨m, 0xF70000⟩ < Row.weight ⟨m', 0xF7C000⟩ :=
  (by decide : (List.range 24).countP (0xF70000#24).getLsbD < (List.range 24).countP (0xF7C000#24).getLsbD)

theorem spaceRow_shorter_selectorRow (m m' : Key) : Row.weight ⟨m, 0xF70000⟩ < Row.weight ⟨m', 0xF7C07F⟩ :=
  (by decide : (List.range 24).countP (0xF70000#24).getLsbD < (List.range 24).countP (0xF7C07F#24).getLsbD)

/-! ## What the decoder's tables of sub-registers answer (30_encoding.md R148 to R150) -/

/-- A table's answer for a selector: a known one has a row of its own, which looks at every field; any other has the
fallback. -/
inductive SelectsRow (known : BitVec 7 → Bool) (key : BitVec 7 → Key) (fallback : BitVec 7 → Instr) (sel : BitVec 7) :
    Instr → Prop where
  | own {i : Instr} (hknown : known sel = true) (hwf : i.wf = true) (hrow : i.row = ⟨key sel, 0xF7C07F⟩) :
      SelectsRow known key fallback sel i
  | fallback (hknown : known sel = false) : SelectsRow known key fallback sel (fallback sel)

theorem eq_ofNat_of_toNat_eq {w : Nat} {x : BitVec w} {n : Nat} (h : x.toNat = n) : x = BitVec.ofNat w n := by
  rw [← h, BitVec.ofNat_toNat, BitVec.setWidth_eq]

section
variable {known : BitVec 7 → Bool} {key : BitVec 7 → Key} {fallback : BitVec 7 → Instr} {sel : BitVec 7} {i : Instr}

/-- In a table's arm the selector is the arm's literal. -/
theorem SelectsRow.arm {n : Nat} (h : sel.toNat = n) (hknown : known (BitVec.ofNat 7 n) = true) (hwf : i.wf = true)
    (hrow : i.row = ⟨key (BitVec.ofNat 7 n), 0xF7C07F⟩) : SelectsRow known key fallback sel i := by
  obtain rfl := eq_ofNat_of_toNat_eq h
  exact .own hknown hwf hrow

theorem SelectsRow.eq_fallback (h : SelectsRow known key fallback sel i) (hknown : known sel = false) :
    i = fallback sel := by
  cases h with
  | own htrue => exact absurd htrue (by simp [hknown])
  | fallback => rfl

end

section
variable (sel : BitVec 7) (v : Word)

theorem cWriteRow_selectsRow :
    SelectsRow cSelKnown (mkKey 1 .byte 3 true false false) (.wrCUnknown · v) sel (cWriteRow sel v) := by
  unfold cWriteRow
  split
  case h_23 => exact .fallback (by simp only [imp_false] at *; simp [cSelKnown]; omega)
  all_goals exact .arm ‹sel.toNat = _› rfl rfl rfl

theorem cReadRow_selectsRow :
    SelectsRow cSelKnown (mkKey 0 .byte 3 true false false) .rdCUnknown sel (cReadRow sel) := by
  unfold cReadRow
  split
  case h_23 => exact .fallback (by simp only [imp_false] at *; simp [cSelKnown]; omega)
  all_goals exact .arm ‹sel.toNat = _› rfl rfl rfl

theorem kWriteLoRow_selectsRow :
    SelectsRow kSelKnown (mkKey 1 .byte 6 true false false) (.wrKUnknown false · v) sel (kWriteLoRow sel v) := by
  unfold kWriteLoRow
  split
  case h_68 => exact .fallback (by simp only [imp_false] at *; simp [kSelKnown]; omega)
  all_goals exact .arm ‹sel.toNat = _› rfl rfl rfl

theorem kWriteHiRow_selectsRow :
    SelectsRow kSelKnown (mkKey 1 .byte 6 true true false) (.wrKUnknown true · v) sel (kWriteHiRow sel v) := by
  unfold kWriteHiRow
  split
  case h_68 => exact .fallback (by simp only [imp_false] at *; simp [kSelKnown]; omega)
  all_goals exact .arm ‹sel.toNat = _› rfl rfl rfl

theorem kReadLoRow_selectsRow :
    SelectsRow kSelKnown (mkKey 0 .byte 6 true false false) (.rdKUnknown false) sel (kReadLoRow sel) := by
  unfold kReadLoRow
  split
  case h_68 => exact .fallback (by simp only [imp_false] at *; simp [kSelKnown]; omega)
  all_goals exact .arm ‹sel.toNat = _› rfl rfl rfl

theorem kReadHiRow_selectsRow :
    SelectsRow kSelKnown (mkKey 0 .byte 6 true true false) (.rdKUnknown true) sel (kReadHiRow sel) := by
  unfold kReadHiRow
  split
  case h_68 => exact .fallback (by simp only [imp_false] at *; simp [kSelKnown]; omega)
  all_goals exact .arm ‹sel.toNat = _› rfl rfl rfl

end

/-! ## Decoding what was encoded -/

/-! The key of a data-port access leads to the table of sub-registers of its space, half and direction. -/

theorem decode_encodeWrite_controller (sel : BitVec 7) (v : Word) :
    decode (encodeWrite 3 true false sel v).1 (encodeWrite 3 true false sel v).2 = .ok (cWriteRow sel v) := by
  simp [encodeWrite, decode, decodeWrite, keyCmd_mkKey]

theorem decode_encodeRead_controller (sel : BitVec 7) :
    decode (encodeRead 3 true false sel).1 (encodeRead 3 true false sel).2 = .ok (cReadRow sel) := by
  simp [encodeRead, decode, decodeRead, keyCmd_mkKey]

theorem decode_encodeWrite_memory (high : Bool) (sel : BitVec 7) (v : Word) :
    decode (encodeWrite 6 true high sel v).1 (encodeWrite 6 true high sel v).2 =
      .ok (if high then kWriteHiRow sel v else kWriteLoRow sel v) := by
  simp [encodeWrite, decode, decodeWrite, keyCmd_mkKey]

theorem decode_encodeRead_memory (high : Bool) (sel : BitVec 7) :
    decode (encodeRead 6 true high sel).1 (encodeRead 6 true high sel).2 =
      .ok (if high then kReadHiRow sel else kReadLoRow sel) := by
  simp [encodeRead, decode, decodeRead, keyCmd_mkKey]

/-- Settles O2: the key of a fallback row has a selector or a space that no other row claims; the key of every other
row is a literal, which the decoder computes on. -/
theorem decodeOfEncodeIsTheInstruction : Obligations.DecodeOfEncodeIsTheInstruction := by
  unfold Obligations.DecodeOfEncodeIsTheInstruction
  intro i hwf
  cases i with
  | wrCUnknown sel v =>
    have hsel := (cWriteRow_selectsRow sel v).eq_fallback (by simpa [Instr.wf] using hwf)
    exact (decode_encodeWrite_controller sel v).trans (congrArg Except.ok hsel)
  | rdCUnknown sel =>
    have hsel := (cReadRow_selectsRow sel).eq_fallback (by simpa [Instr.wf] using hwf)
    exact (decode_encodeRead_controller sel).trans (congrArg Except.ok hsel)
  | wrKUnknown high sel v =>
    have hunknown : kSelKnown sel = false := by simpa [Instr.wf] using hwf
    refine (decode_encodeWrite_memory high sel v).trans (congrArg Except.ok ?_)
    cases high
    · exact (kWriteLoRow_selectsRow sel v).eq_fallback hunknown
    · exact (kWriteHiRow_selectsRow sel v).eq_fallback hunknown
  | rdKUnknown high sel =>
    have hunknown : kSelKnown sel = false := by simpa [Instr.wf] using hwf
    refine (decode_encodeRead_memory high sel).trans (congrArg Except.ok ?_)
    cases high
    · exact (kReadLoRow_selectsRow sel).eq_fallback hunknown
    · exact (kReadHiRow_selectsRow sel).eq_fallback hunknown
  | wrNospace space v =>
    obtain ⟨hcontroller, hmemory⟩ : space ≠ 3#3 ∧ space ≠ 6#3 := by simpa [Instr.wf, spaceKnown] using hwf
    simp [encode, encodeWrite, decode, decodeWrite, keyCmd_mkKey, hcontroller, hmemory]
  | rdNospace space =>
    obtain ⟨hcontroller, hmemory⟩ : space ≠ 3#3 ∧ space ≠ 6#3 := by simpa [Instr.wf, spaceKnown] using hwf
    simp [encode, encodeRead, decode, decodeRead, keyCmd_mkKey, hcontroller, hmemory]
  | _ =>
    dsimp only [encode, encodeWrite, encodeRead]
    rfl

/-! ## The row a key selects (30_encoding.md R142) -/

/-- What R142 asks of the answer `i` for `k`, compared with one other row: `i` is well-formed, its row fits, and the row
of `fallback` is its own or has a shorter mask. -/
structure Selected (k : Key) (fallback i : Instr) : Prop where
  wf : i.wf = true
  fits : i.row.fits k = true
  longest : fallback.row = i.row ∨ fallback.row.weight < i.row.weight

/-- A row with a shorter mask than the fallback's yields, too. -/
theorem Selected.of_shorter {k : Key} {fallback fallback' i : Instr} (h : Selected k fallback i)
    (hshorter : fallback'.row.weight < fallback.row.weight) : Selected k fallback' i := by
  obtain ⟨hwf, hfits, heq | hlt⟩ := h
  · exact ⟨hwf, hfits, .inr (heq ▸ hshorter)⟩
  · exact ⟨hwf, hfits, .inr (hshorter.trans hlt)⟩

/-- A table of sub-registers selects the row with the longest mask. -/
theorem SelectsRow.selected {known : BitVec 7 → Bool} {key : BitVec 7 → Key} {fallback : BitVec 7 → Instr}
    {sel : BitVec 7} {k : Key} {i : Instr} (h : SelectsRow known key fallback sel i)
    (hkey : Row.fits ⟨key sel, 0xF7C07F⟩ k) (hwf : (fallback sel).wf = !known sel) (hfits : (fallback sel).row.fits k)
    (hshorter : ∀ m, (fallback sel).row.weight < Row.weight ⟨m, 0xF7C07F⟩) : Selected k (fallback sel) i := by
  cases h with
  | own _ hiwf hrow => exact ⟨hiwf, hrow ▸ hkey, .inr (hrow ▸ hshorter _)⟩
  | fallback hknown => exact ⟨by simp [hwf, hknown], hfits, .inl rfl⟩

section
variable {k : Key} {v : Word}

/-- The three places of a space: its address port, the high half and the low half of its data port. -/
theorem selected_port_half {fallback x y z : Instr} (hx : keyPort k = false → Selected k fallback x)
    (hy : keyPort k = true → keyHalf k = true → Selected k fallback y)
    (hz : keyPort k = true → keyHalf k = false → Selected k fallback z) :
    Selected k fallback (if keyPort k = false then x else if keyHalf k then y else z) := by
  cases hport : keyPort k
  · exact hx hport
  · cases hhalf : keyHalf k
    · exact hz hport hhalf
    · exact hy hport hhalf

theorem selected_decodeWrite_controller (hcmd : keyCmd k = 1) (hspace : keySpace k = 3#3) :
    Selected k (.wrCUnknown (keySel k) v) (decodeWrite k v) := by
  have hunknown : Row.fits ⟨0x130000, 0xF70000⟩ k := fits_spaceRow_iff.2 ⟨hcmd, hspace⟩
  rw [decodeWrite, if_pos hspace]
  refine selected_port_half (fun hport => ?_) (fun hport hhalf => ?_) (fun hport hhalf => ?_)
  · exact ⟨rfl, fits_portRow_iff.2 ⟨hcmd, hspace, hport⟩, .inr (spaceRow_shorter_portRow _ _)⟩
  · exact ⟨rfl, fits_halfRow_iff.2 ⟨hcmd, hspace, hport, hhalf⟩, .inr (spaceRow_shorter_halfRow _ _)⟩
  · exact (cWriteRow_selectsRow _ v).selected (fits_selectorRow_iff.2 ⟨hcmd, hspace, hport, hhalf, rfl⟩) rfl hunknown
      (spaceRow_shorter_selectorRow _)

theorem selected_decodeRead_controller (hcmd : keyCmd k = 0) (hspace : keySpace k = 3#3) :
    Selected k (.rdCUnknown (keySel k)) (decodeRead k) := by
  have hunknown : Row.fits ⟨0x030000, 0xF70000⟩ k := fits_spaceRow_iff.2 ⟨hcmd, hspace⟩
  rw [decodeRead, if_pos hspace]
  refine selected_port_half (fun hport => ?_) (fun hport hhalf => ?_) (fun hport hhalf => ?_)
  · exact ⟨rfl, fits_portRow_iff.2 ⟨hcmd, hspace, hport⟩, .inr (spaceRow_shorter_portRow _ _)⟩
  · exact ⟨rfl, fits_halfRow_iff.2 ⟨hcmd, hspace, hport, hhalf⟩, .inr (spaceRow_shorter_halfRow _ _)⟩
  · exact (cReadRow_selectsRow _).selected (fits_selectorRow_iff.2 ⟨hcmd, hspace, hport, hhalf, rfl⟩) rfl hunknown
      (spaceRow_shorter_selectorRow _)

theorem selected_decodeWrite_memory (hcmd : keyCmd k = 1) (hspace : keySpace k = 6#3) :
    Selected k (.wrKUnknown (keyHalf k) (keySel k) v) (decodeWrite k v) := by
  have hunknown : Row.fits ⟨0x160000, 0xF70000⟩ k := fits_spaceRow_iff.2 ⟨hcmd, hspace⟩
  rw [decodeWrite, if_neg (by simp [hspace]), if_pos hspace]
  refine selected_port_half (fun hport => ?_) (fun hport hhalf => ?_) (fun hport hhalf => ?_)
  · exact ⟨rfl, fits_portRow_iff.2 ⟨hcmd, hspace, hport⟩, .inr (spaceRow_shorter_portRow _ _)⟩
  · rw [hhalf]
    exact (kWriteHiRow_selectsRow _ v).selected (fits_selectorRow_iff.2 ⟨hcmd, hspace, hport, hhalf, rfl⟩) rfl hunknown
      (spaceRow_shorter_selectorRow _)
  · rw [hhalf]
    exact (kWriteLoRow_selectsRow _ v).selected (fits_selectorRow_iff.2 ⟨hcmd, hspace, hport, hhalf, rfl⟩) rfl hunknown
      (spaceRow_shorter_selectorRow _)

theorem selected_decodeRead_memory (hcmd : keyCmd k = 0) (hspace : keySpace k = 6#3) :
    Selected k (.rdKUnknown (keyHalf k) (keySel k)) (decodeRead k) := by
  have hunknown : Row.fits ⟨0x060000, 0xF70000⟩ k := fits_spaceRow_iff.2 ⟨hcmd, hspace⟩
  rw [decodeRead, if_neg (by simp [hspace]), if_pos hspace]
  refine selected_port_half (fun hport => ?_) (fun hport hhalf => ?_) (fun hport hhalf => ?_)
  · exact ⟨rfl, fits_portRow_iff.2 ⟨hcmd, hspace, hport⟩, .inr (spaceRow_shorter_portRow _ _)⟩
  · rw [hhalf]
    exact (kReadHiRow_selectsRow _).selected (fits_selectorRow_iff.2 ⟨hcmd, hspace, hport, hhalf, rfl⟩) rfl hunknown
      (spaceRow_shorter_selectorRow _)
  · rw [hhalf]
    exact (kReadLoRow_selectsRow _).selected (fits_selectorRow_iff.2 ⟨hcmd, hspace, hport, hhalf, rfl⟩) rfl hunknown
      (spaceRow_shorter_selectorRow _)

theorem selected_decodeWrite (hcmd : keyCmd k = 1) : Selected k (.wrNospace (keySpace k) v) (decodeWrite k v) := by
  by_cases hcontroller : keySpace k = 3#3
  · exact (selected_decodeWrite_controller hcmd hcontroller).of_shorter (cmdRow_shorter_spaceRow _ _)
  by_cases hmemory : keySpace k = 6#3
  · exact (selected_decodeWrite_memory hcmd hmemory).of_shorter (cmdRow_shorter_spaceRow _ _)
  rw [decodeWrite, if_neg hcontroller, if_neg hmemory]
  exact ⟨by simp [Instr.wf, spaceKnown, hcontroller, hmemory], fits_cmdRow_iff.2 hcmd, .inl rfl⟩

theorem selected_decodeRead (hcmd : keyCmd k = 0) : Selected k (.rdNospace (keySpace k)) (decodeRead k) := by
  by_cases hcontroller : keySpace k = 3#3
  · exact (selected_decodeRead_controller hcmd hcontroller).of_shorter (cmdRow_shorter_spaceRow _ _)
  by_cases hmemory : keySpace k = 6#3
  · exact (selected_decodeRead_memory hcmd hmemory).of_shorter (cmdRow_shorter_spaceRow _ _)
  rw [decodeRead, if_neg hcontroller, if_neg hmemory]
  exact ⟨by simp [Instr.wf, spaceKnown, hcontroller, hmemory], fits_cmdRow_iff.2 hcmd, .inl rfl⟩

end

section
variable {k : Key} (a : Args)

theorem decode_of_read (h : keyCmd k = 0) : decode k a = .ok (decodeRead k) := by simp [decode, h]

theorem decode_of_write (h : keyCmd k = 1) : decode k a = .ok (decodeWrite k a.v) := by simp [decode, h]

/-- Decoding looks at no bit of a key that a sub-register's row leaves out. -/
theorem decode_of_fits_selectorRow {m : Key} (h : Row.fits ⟨m, 0xF7C07F⟩ k) : decode k a = decode m a := by
  have hmask := and_mkKey k (.allOnes 4) (.allOnes 3) true true (.allOnes 7)
  simp only [BitVec.and_allOnes, Bool.and_true] at hmask
  obtain rfl : mkKey (keyCmd k) .byte (keySpace k) (keyPort k) (keyHalf k) false (keySel k) = m :=
    hmask.symm.trans (beq_iff_eq.1 h)
  simp [decode, decodeRead, decodeWrite, keyCmd_mkKey]

/-- What is decoded is well-formed and its row fits the key. -/
theorem exists_decode_wf_fits (h : (keyCmd k).toNat ≤ 6) :
    ∃ i, decode k a = .ok i ∧ i.wf = true ∧ i.row.fits k = true := by
  interval_cases hc : (keyCmd k).toNat
  all_goals have hcmd := eq_ofNat_of_toNat_eq hc
  · exact ⟨_, decode_of_read a hcmd, (selected_decodeRead hcmd).wf, (selected_decodeRead hcmd).fits⟩
  · exact ⟨_, decode_of_write a hcmd, (selected_decodeWrite hcmd).wf, (selected_decodeWrite hcmd).fits⟩
  · exact ⟨.run a.n, by simp only [decode, hc], rfl, fits_cmdRow_iff.2 hcmd⟩
  · exact ⟨.reset a.t, by simp only [decode, hc], rfl, fits_cmdRow_iff.2 hcmd⟩
  · exact ⟨.save, by simp only [decode, hc], rfl, fits_cmdRow_iff.2 hcmd⟩
  · exact ⟨.restore a.s, by simp only [decode, hc], rfl, fits_cmdRow_iff.2 hcmd⟩
  · exact ⟨.playfetch a.c, by simp only [decode, hc], rfl, fits_cmdRow_iff.2 hcmd⟩

/-- A row that fits a key is the decoded one or has a shorter mask. -/
theorem exists_decode_of_fits {j : Instr} (h : j.row.fits k = true) :
    ∃ i, decode k a = .ok i ∧ (j.row = i.row ∨ j.row.weight < i.row.weight) := by
  cases j with
  | wrCUnknown sel v =>
    obtain ⟨hcmd, hspace⟩ := (fits_spaceRow_iff (cmd := 1) (space := 3)).1 h
    exact ⟨_, decode_of_write a hcmd, (selected_decodeWrite_controller hcmd hspace).longest⟩
  | rdCUnknown sel =>
    obtain ⟨hcmd, hspace⟩ := (fits_spaceRow_iff (cmd := 0) (space := 3)).1 h
    exact ⟨_, decode_of_read a hcmd, (selected_decodeRead_controller hcmd hspace).longest⟩
  | wrKUnknown high sel v =>
    obtain ⟨hcmd, hspace⟩ := (fits_spaceRow_iff (cmd := 1) (space := 6)).1 h
    exact ⟨_, decode_of_write a hcmd, (selected_decodeWrite_memory hcmd hspace).longest⟩
  | rdKUnknown high sel =>
    obtain ⟨hcmd, hspace⟩ := (fits_spaceRow_iff (cmd := 0) (space := 6)).1 h
    exact ⟨_, decode_of_read a hcmd, (selected_decodeRead_memory hcmd hspace).longest⟩
  | wrNospace space v =>
    have hcmd := (fits_cmdRow_iff (cmd := 1)).1 h
    exact ⟨_, decode_of_write a hcmd, (selected_decodeWrite hcmd).longest⟩
  | rdNospace space =>
    have hcmd := (fits_cmdRow_iff (cmd := 0)).1 h
    exact ⟨_, decode_of_read a hcmd, (selected_decodeRead hcmd).longest⟩
  | wrCar v =>
    obtain ⟨hcmd, hspace, hport⟩ := (fits_portRow_iff (cmd := 1) (space := 3) (port := false)).1 h
    exact ⟨.wrCar a.v, by simp [decode, decodeWrite, hcmd, hspace, hport], .inl rfl⟩
  | wrKar v =>
    obtain ⟨hcmd, hspace, hport⟩ := (fits_portRow_iff (cmd := 1) (space := 6) (port := false)).1 h
    exact ⟨.wrKar a.v, by simp [decode, decodeWrite, hcmd, hspace, hport], .inl rfl⟩
  | rdCstat =>
    obtain ⟨hcmd, hspace, hport⟩ := (fits_portRow_iff (cmd := 0) (space := 3) (port := false)).1 h
    exact ⟨.rdCstat, by simp [decode, decodeRead, hcmd, hspace, hport], .inl rfl⟩
  | rdKstat =>
    obtain ⟨hcmd, hspace, hport⟩ := (fits_portRow_iff (cmd := 0) (space := 6) (port := false)).1 h
    exact ⟨.rdKstat, by simp [decode, decodeRead, hcmd, hspace, hport], .inl rfl⟩
  | wrCHigh v =>
    obtain ⟨hcmd, hspace, hport, hhalf⟩ :=
      (fits_halfRow_iff (cmd := 1) (space := 3) (port := true) (half := true)).1 h
    exact ⟨.wrCHigh a.v, by simp [decode, decodeWrite, hcmd, hspace, hport, hhalf], .inl rfl⟩
  | rdCHigh =>
    obtain ⟨hcmd, hspace, hport, hhalf⟩ :=
      (fits_halfRow_iff (cmd := 0) (space := 3) (port := true) (half := true)).1 h
    exact ⟨.rdCHigh, by simp [decode, decodeRead, hcmd, hspace, hport, hhalf], .inl rfl⟩
  | run n => exact ⟨.run a.n, by simp [decode, (fits_cmdRow_iff (cmd := 2)).1 h], .inl rfl⟩
  | reset t => exact ⟨.reset a.t, by simp [decode, (fits_cmdRow_iff (cmd := 3)).1 h], .inl rfl⟩
  | save => exact ⟨.save, by simp [decode, (fits_cmdRow_iff (cmd := 4)).1 h], .inl rfl⟩
  | restore x => exact ⟨.restore a.s, by simp [decode, (fits_cmdRow_iff (cmd := 5)).1 h], .inl rfl⟩
  | playfetch c => exact ⟨.playfetch a.c, by simp [decode, (fits_cmdRow_iff (cmd := 6)).1 h], .inl rfl⟩
  | _ => exact ⟨_, decode_of_fits_selectorRow a h, .inl rfl⟩

theorem decode_reserved (h : 7 ≤ (keyCmd k).toNat) : decode k a = .error (.reservedCommand (keyCmd k)) := by
  unfold decode
  split
  case h_8 => rfl
  all_goals omega

end

/-- Settles O3: every row that fits a key yields to the decoded one, and a reserved command is decoded to none. -/
theorem decodeSelectsTheLongestMatchingMask : Obligations.DecodeSelectsTheLongestMatchingMask := by
  unfold Obligations.DecodeSelectsTheLongestMatchingMask
  intro k a
  constructor
  · intro hcmd
    obtain ⟨i, hdecode, hwf, hfits⟩ := exists_decode_wf_fits a hcmd
    refine ⟨i, hdecode, hwf, hfits, fun j hj => ?_⟩
    obtain ⟨i', hdecode', hlongest⟩ := exists_decode_of_fits a hj
    obtain rfl := Except.ok.inj (hdecode.symm.trans hdecode')
    exact hlongest
  · intro hcmd
    refine ⟨decode_reserved a hcmd, fun j => Bool.eq_false_of_not_eq_true fun hj => ?_⟩
    obtain ⟨i, hdecode, -⟩ := exists_decode_of_fits a hj
    cases (decode_reserved a hcmd).symm.trans hdecode

/-! ## Words from the key layout, the address registers -/

/-- Settles O1: the words are literals, which the decoder computes on. -/
theorem tableWordsDecodeToTheirRows : Obligations.TableWordsDecodeToTheirRows := by
  unfold Obligations.TableWordsDecodeToTheirRows
  repeat' apply And.intro
  all_goals rfl

/-- Settles O11: each write is one store of the value's low bits, and completes. -/
theorem addressRegisterWritesKeepTheirLowBits : Obligations.AddressRegisterWritesKeepTheirLowBits := by
  unfold Obligations.AddressRegisterWritesKeepTheirLowBits
  exact fun v s => ⟨completes_of_complete rfl, completes_of_complete rfl⟩

/-! ## Half reads of the stored memory/DMA registers (30_encoding.md R145; 41_memory_dma_registers.md R260) -/

section
variable {w : Nat} (x : BitVec w)

/-- The low half of a register. -/
theorem halfLo_setWidth : halfLo (x.setWidth 32) = x.setWidth 16 := by
  rw [halfLo, ← BitVec.setWidth_eq_extractLsb' (by decide), BitVec.setWidth_setWidth_of_le _ (by decide)]

/-- The high half of a register with more than 16 bits. -/
theorem halfHi_setWidth_of_wide (hw : 16 < w) :
    halfHi (x.setWidth 32) = (x.extractLsb' 16 (w - 16)).setWidth 16 := by
  apply BitVec.eq_of_getLsbD_eq
  intro j hj
  by_cases h : 16 + j < w
  · simp [halfHi, hj, show 16 + j < 32 by omega, show j < w - 16 by omega]
  · simp [halfHi, hj, BitVec.getLsbD_of_ge x (16 + j) (by omega)]

/-- A register of 16 bits or fewer has no high half. -/
theorem halfHi_setWidth_of_narrow (hw : w ≤ 16) : halfHi (x.setWidth 32) = 0 := by
  apply BitVec.eq_of_getLsbD_eq
  intro j hj
  simp [halfHi, BitVec.getLsbD_of_ge x (16 + j) (by omega)]

end

/-- Settles O29: each read answers a half of the register's value, zero-extended to 32 bits. -/
theorem memoryRegisterLoadsReturnTheirHalves : Obligations.MemoryRegisterLoadsReturnTheirHalves := by
  unfold Obligations.MemoryRegisterLoadsReturnTheirHalves
  intro s
  have hpageLo : halfLo (kRead s .page) = s.kctl.page.extractLsb' 0 16 := rfl
  have hpageHi : halfHi (kRead s .page) = s.kctl.page.extractLsb' 16 16 := rfl
  repeat' apply And.intro
  all_goals
    refine completes_of_answer (congrArg (answer · s) ?_)
    simp only [↓hpageLo, ↓hpageHi, kRead, halfLo_setWidth, halfHi_setWidth_of_wide, halfHi_setWidth_of_narrow,
      ← BitVec.setWidth_eq_extractLsb', BitVec.setWidth_eq, Nat.reduceLeDiff, Nat.reduceLT]

end Sys2Proof.Machine
end

section
/-! The controller registers: masked stores and loads, the palette port, the status words and the halves that hold
nothing (40_controller_registers.md; 41_memory_dma_registers.md R261, R264, R338). -/

namespace Sys2Proof.Machine

/-! ## Accesses that store nothing (40_controller_registers.md R204, R210, R211; 41_memory_dma_registers.md R264) -/

theorem noEffect_of_inertWrite {i : Instr} {s : State} (h : exec i s = inertWrite s) : NoEffect i s :=
  completes_of_complete h

theorem justReads_of_answer {i : Instr} {s : State} {r : Word} (h : exec i s = answer r s) : JustReads i s r :=
  completes_of_answer h

theorem justReads_zero_of_inertRead {i : Instr} {s : State} (h : exec i s = inertRead s) : JustReads i s 0 :=
  justReads_of_answer h

/-- Settles O17: each of these writes is `inertWrite` and each of these reads `inertRead`. -/
theorem inertHalvesIgnoreWritesAndReadZero : Obligations.InertHalvesIgnoreWritesAndReadZero := by
  unfold Obligations.InertHalvesIgnoreWritesAndReadZero
  intro v s
  repeat' apply And.intro
  any_goals exact noEffect_of_inertWrite rfl
  all_goals exact justReads_zero_of_inertRead rfl

/-! ## Status words (40_controller_registers.md R206; 41_memory_dma_registers.md R261, R331, R338) -/

/-- RASTER, ODD at bit 9 and ACTIVE at bit 10. -/
theorem controllerStatus_eq (t : Timing) :
    controllerStatus t =
      t.raster.setWidth 16 ||| (if t.odd then 0x0200#16 else 0#16) |||
        (if t.hphase = .active then 0x0400#16 else 0#16) := by
  have hactive : (t.hphase == .active) = decide (t.hphase = .active) := by cases t.hphase <;> rfl
  simp only [controllerStatus, bit, hactive, decide_eq_true_eq]
  rfl

/-- Settles O12: the words are `controllerStatus`, `memoryStatus` and AD_FLAGS, and each read clears what it clears in
one store. -/
theorem statusReadsReturnTheirBits : Obligations.StatusReadsReturnTheirBits := by
  unfold Obligations.StatusReadsReturnTheirBits
  refine ⟨fun s => ?_, fun v s => ⟨noEffect_of_inertWrite rfl, completes_of_answer rfl⟩, fun s => ?_⟩
  · rw [← controllerStatus_eq]
    exact justReads_of_answer rfl
  · have hkstat : exec .rdKstat s = answer (memoryStatus s) (s.setPend Pending.zero) := rfl
    exact completes_of_answer hkstat

/-! ## Masked stores and loads (40_controller_registers.md R201) -/

/-- A store that leaves the picture registers `p`. -/
theorem completes_of_storeC {i : Instr} {r : CReg} {v : Word} {s : State} {p : PicRegs}
    (hexec : exec i s = storeC r v s) (hstore : cStore s.pic r v = p) : Completes i s .nothing (s.setPic p) :=
  completes_of_complete (hexec.trans (by rw [storeC, hstore]))

/-- Every bit of these registers is writable. -/
theorem cStore_of_allOnes {r : CReg} (hr : cMask r = .allOnes 16) (p : PicRegs) (v : Word) :
    cStore p r v = cWrite p r v := by
  rw [cStore, hr, BitVec.and_allOnes]

/-- The mask of a coefficient leaves the bits a 12-bit register holds. -/
theorem setWidth_and_coefMask (v : Word) : (v &&& 0x0FFF#16).setWidth 12 = v.extractLsb' 0 12 := by
  have hmask : (0x0FFF#16).setWidth 12 = BitVec.allOnes 12 := rfl
  rw [BitVec.setWidth_and, hmask, BitVec.and_allOnes, BitVec.setWidth_eq_extractLsb' (by decide)]

/-- Settles O13: a register is stored whole, under its own mask, or as the 12 bits of a coefficient; each load is the
stored value. -/
theorem controllerStoresMaskAndLoadBack : Obligations.ControllerStoresMaskAndLoadBack := by
  unfold Obligations.ControllerStoresMaskAndLoadBack
  constructor
  · intro v s
    have hcoef := setWidth_and_coefMask v
    refine ⟨completes_of_storeC rfl rfl, ?palofs0, ?palofs1, ?palofs2, completes_of_storeC rfl rfl, ?prio0,
      completes_of_storeC rfl rfl, ?keyy, ?keyu, ?keyv, ?fixcol, ?celctl, ?sprmask, ?coef0, ?coef1, ?coef2, ?coef3,
      ?coef4, ?coef5⟩
    case coef0 | coef1 | coef2 | coef3 | coef4 | coef5 =>
      exact completes_of_storeC rfl (by rw [← hcoef]; rfl)
    all_goals exact completes_of_storeC rfl (cStore_of_allOnes rfl _ _)
  · intro s
    repeat' apply And.intro
    all_goals exact justReads_of_answer rfl

/-! ## The palette port (40_controller_registers.md R208 to R211; 43_palette_yuv.md R411, R412) -/

/-- Settles O14: PALADDR seeks, PALRDATA answers the latch and advances, and the other two accesses are inert. -/
theorem paletteCursorAccesses : Obligations.PaletteCursorAccesses := by
  unfold Obligations.PaletteCursorAccesses
  intro v s
  have hseek : exec (.wrPaladdr v) s = complete (s.setPalette (paletteSeek s.palette (v.extractLsb' 0 9))) := rfl
  have hadvance : exec .rdPalrdata s = answer s.palette.latch (s.setPalette (paletteAdvance s.palette)) := rfl
  exact ⟨completes_of_complete hseek, justReads_of_answer rfl, completes_of_answer hadvance,
    noEffect_of_inertWrite rfl, justReads_zero_of_inertRead rfl⟩

/-- Settles O15: the write is one `palSet` at the cursor, one `pcacheSet` of the expanded value and one seek. -/
theorem paletteWriteStoresExpandsAndPrefetches : Obligations.PaletteWriteStoresExpandsAndPrefetches := by
  unfold Obligations.PaletteWriteStoresExpandsAndPrefetches
  intro v s
  exact ⟨palSet s.palette.pal s.palette.cur v, pcacheSet s.pcache s.palette.cur (expand v),
    completes_of_complete rfl, fun j => palGet_palSet _ _ j v, fun j => pcacheGet_pcacheSet _ _ j (expand v)⟩

end Sys2Proof.Machine
end

section
/-! Half writes of the stored memory/DMA registers, with the notifications of the playback engine, and two data ports
(41_memory_dma_registers.md R260, R297, R311, R312, R330, R332). -/

namespace Sys2Proof.Machine

/-! ## Half writes (41_memory_dma_registers.md R260, R330, R332) -/

section
variable {i : Instr} {r : KReg} {s x e : State}

/-- A half write of a register the playback engine does not hear of. -/
theorem completes_of_silentStore (hexec : exec i s = complete (notifyPlay r x)) (hstore : x = e)
    (hn : kNotifies r = none) : Completes i s .nothing e :=
  completes_of_complete (hexec.trans (congrArg complete (by rw [notifyPlay, hn, hstore])))

/-- A half write of a playback register tells the engine the value the register now holds. -/
theorem completes_of_notifiedStore {p : PlayReg} {y : BitVec 32} (hexec : exec i s = complete (notifyPlay r x))
    (hstore : x = e) (hn : kNotifies r = some p) (hread : kRead e r = y) :
    Completes i s .nothing (e.setCalls (.playNotify p y :: e.calls)) :=
  completes_of_complete (hexec.trans (congrArg complete (by rw [notifyPlay, hn, hstore, hread]; rfl)))

end

/-- Settles O25: a half write puts V beside the half that stays; only PAGE's mask leaves out bits of either half. -/
theorem wideRegisterStoresReplaceOneHalf : Obligations.WideRegisterStoresReplaceOneHalf := by
  unfold Obligations.WideRegisterStoresReplaceOneHalf
  intro v s
  have hpageLo : kStoreLo s .page v =
      s.setKctl { s.kctl with page := (s.kctl.page.extractLsb' 16 16 ++ v) &&& 0x01010011#32 } :=
    congrArg (fun x => s.setKctl { s.kctl with page := x &&& kMask .page }) (mergeLo_full s.kctl.page v)
  have hpageHi : kStoreHi s .page v =
      s.setKctl { s.kctl with page := (v ++ s.kctl.page.extractLsb' 0 16) &&& 0x01010011#32 } :=
    congrArg (fun x => s.setKctl { s.kctl with page := x &&& kMask .page }) (mergeHi_full s.kctl.page v)
  repeat' apply And.intro
  all_goals
    refine completes_of_silentStore rfl ?_ rfl
    simp (disch := decide) only [↓hpageLo, ↓hpageHi, kStoreLo, kStoreHi, kWrite, kRead, kMask, mergeLo_wide,
      mergeHi_wide]

/-- Settles O26: the engine is told the value just stored; AD_CTL alone is a 16-bit register under a mask. -/
theorem playbackStoresNotifyTheEngine : Obligations.PlaybackStoresNotifyTheEngine := by
  unfold Obligations.PlaybackStoresNotifyTheEngine
  intro v s
  have hadctlLo : kStoreLo s .adctl v = s.setPlay { s.play with ctl := v &&& 0x003F#16 } :=
    congrArg (fun x => s.setPlay { s.play with ctl := x }) (mergeLo_masked s.play.ctl v 0x003F#16)
  have hadctlHi : kStoreHi s .adctl v = s.setPlay { s.play with ctl := s.play.ctl &&& 0x003F#16 } :=
    congrArg (fun x => s.setPlay { s.play with ctl := x }) (mergeHi_masked s.play.ctl v 0x003F#16)
  repeat' apply And.intro
  all_goals
    refine completes_of_notifiedStore rfl ?_ rfl rfl
    simp (disch := decide) only [↓hadctlLo, ↓hadctlHi, kStoreLo, kStoreHi, kWrite, kRead, kMask, mergeLo_wide,
      mergeHi_wide]

/-- Settles O27: the whole register is V's low bits; the control words are 16-bit registers under a mask. -/
theorem narrowRegisterStoresKeepTheWritableBits : Obligations.NarrowRegisterStoresKeepTheWritableBits := by
  unfold Obligations.NarrowRegisterStoresKeepTheWritableBits
  intro v s
  have hmask1 (x : Word) : (mergeLo (x.setWidth 32) v &&& 1).setWidth 16 = v &&& 0x0001#16 :=
    mergeLo_masked x v 0x0001#16
  have hmask3 (x : Word) : (mergeLo (x.setWidth 32) v &&& 3).setWidth 16 = v &&& 0x0003#16 :=
    mergeLo_masked x v 0x0003#16
  repeat' apply And.intro
  all_goals
    refine completes_of_silentStore rfl ?_ rfl
    simp (disch := decide) only [kStoreLo, kWrite, kRead, kMask, hmask1, hmask3, mergeLo_narrow,
      BitVec.extractLsb'_eq_self]

/-! ## The KRAM and microprogram data ports (41_memory_dma_registers.md R297, R311, R312) -/

/-- Settles O31: the read is `cursorPeek` and `cursorAdvance`, which name the bank, the word and the step. -/
theorem kramDataReadReturnsOneWord : Obligations.KramDataReadReturnsOneWord := by
  unfold Obligations.KramDataReadReturnsOneWord
  intro s
  have hread : exec .rdKramdataLo s = answer (cursorPeek s) (cursorAdvance s) := rfl
  exact completes_of_answer hread

/-- Settles O32: the write is one `mprogSet` at MPADDR, the read one `mprogGet`. -/
theorem microprogramTableAccesses : Obligations.MicroprogramTableAccesses := by
  unfold Obligations.MicroprogramTableAccesses
  intro v s
  exact ⟨⟨mprogSet s.mp.prog s.mp.addr v, completes_of_complete rfl, fun j => mprogGet_mprogSet _ _ j v⟩,
    justReads_of_answer rfl⟩

end Sys2Proof.Machine
end

section
/-! The SCSI data, phase, bus and status registers (41_memory_dma_registers.md R270 to R278). -/

namespace Sys2Proof.Machine

/-! ## What the bus answers (46_host_operations.md R536) -/

/-- One answer more from the same queue. -/
theorem answered_concat {α : Type} {q as : List α} {a : α} (has : Answered q as)
    (ha : Answered (q.drop as.length) [a]) : Answered q (as ++ [a]) := by
  unfold Answered at *
  rw [List.length_append, List.take_add]
  obtain hlen | hlen := Nat.le_total as.length q.length
  · have htake : q.take as.length = as := has.eq_of_length (by simp [hlen])
    rw [htake]
    exact (List.prefix_append_right_inj as).2 ha
  · rw [List.drop_of_length_le hlen, List.take_nil, List.append_nil]
    exact has.trans (List.prefix_append as [a])

/-- A byte asked of the bus: one call, the first queued answer if there is one, and nothing else. -/
theorem busGetData_spec (s : State) :
    ∃ d : Byte, Answered s.script.bytes [d] ∧
      busGetData s = (d, (call s .busGetData).setScript { s.script with bytes := s.script.bytes.drop 1 }) := by
  cases h : s.script.bytes with
  | cons d rest => exact ⟨d, by simp [Answered], by simp [busGetData, h]⟩
  | nil =>
    have hscript : { s.script with bytes := [].drop 1 } = (call s .busGetData).script := by
      rw [List.drop_nil, ← h]
      rfl
    refine ⟨Config.busData (call s .busGetData).calls, by simp [Answered], ?_⟩
    rw [hscript]
    simp only [busGetData, call_script, h]
    rfl

/-- A level asked of the bus, likewise; the block's own drive is ORed into ACK (45_dma_scsi_handshake.md R491). -/
theorem busGet_spec (l : Line) (s : State) :
    ∃ b : Bool, Answered s.script.levels [b] ∧
      busGet l s =
        (if l = .ack then b || ackOut s.scsi else b,
          (call s (.busGet l)).setScript { s.script with levels := s.script.levels.drop 1 }) := by
  cases h : s.script.levels with
  | cons b rest => exact ⟨b, by simp [Answered], by simp [busGet, takeLevel, h]⟩
  | nil =>
    have hscript : { s.script with levels := [].drop 1 } = (call s (.busGet l)).script := by
      rw [List.drop_nil, ← h]
      rfl
    refine ⟨Config.busLevel (call s (.busGet l)).calls, by simp [Answered], ?_⟩
    rw [hscript]
    simp only [busGet, takeLevel, call_script, h]
    rfl

/-- From `s` to `e` the lines `ls` (latest first) were asked for and answered `bs` (oldest first), and nothing else
happened. -/
structure Asked (s : State) (ls : List Line) (bs : List Bool) (e : State) : Prop where
  answered : Answered s.script.levels bs
  length : bs.length = ls.length
  state :
    e =
      (s.setCalls (ls.map .busGet ++ s.calls)).setScript
        { s.script with levels := s.script.levels.drop ls.length }

theorem Asked.refl (s : State) : Asked s [] [] s := ⟨by simp [Answered], rfl, rfl⟩

/-- One line more; its level is the answer, for ACK with the block's own drive. -/
theorem Asked.busGet {s e : State} {ls : List Line} {bs : List Bool} (h : Asked s ls bs e) (l : Line) :
    ∃ b : Bool, Asked s (l :: ls) (bs ++ [b]) (busGet l e).2 ∧
      (busGet l e).1 = if l = .ack then b || ackOut s.scsi else b := by
  obtain ⟨hanswered, hlength, rfl⟩ := h
  obtain ⟨b, hb, hget⟩ := busGet_spec l
    ((s.setCalls (ls.map .busGet ++ s.calls)).setScript { s.script with levels := s.script.levels.drop ls.length })
  rw [hget]
  refine ⟨b, ⟨answered_concat hanswered (by rwa [hlength]), by simp [hlength], ?_⟩, rfl⟩
  simp only [State.setScript_script, List.drop_drop]
  rfl

/-! ## SDATA, SBUS and SSTAT (41_memory_dma_registers.md R270, R274, R275) -/

/-- DRQ, PHASE_PEND, PM as the equality of the three phase lines with SPHASE, ATN and ACK, at their bits. -/
theorem sstatWord_eq (drq phasePend : Bool) (p : Byte) (msg cd io atn ack : Bool) :
    sstatWord drq phasePend (phaseMatches p msg cd io) atn ack =
      (if drq then 0x40#16 else 0#16) ||| (if phasePend then 0x10#16 else 0#16) |||
        (if msg = p.getLsbD 2 ∧ cd = p.getLsbD 1 ∧ io = p.getLsbD 0 then 0x08#16 else 0#16) |||
        (if atn then 0x02#16 else 0#16) ||| (if ack then 0x01#16 else 0#16) := by
  simp only [sstatWord, bit, phaseMatches, Bool.and_eq_true, beq_iff_eq, and_assoc]
  rfl

/-- SOUT is stored, driven when SCMD's bit 0 says so, and taken as the byte to send when SEND_ACT is 1. -/
theorem execWrSdataLo_eq (v : Word) (s : State) :
    execWrSdataLo v s =
      complete
        ((s.setScsi { s.scsi with sout := v.extractLsb' 0 8, drq := s.scsi.drq && !s.scsi.sendAct }).setCalls
          (if s.scsi.scmd.getLsbD 0 then .busSetData (v.extractLsb' 0 8) :: s.calls else s.calls)) := by
  unfold execWrSdataLo
  refine congrArg complete ?_
  cases hsend : s.scsi.sendAct with
  | true =>
    simp only [dataDriven, hsend, if_true, Bool.not_true, Bool.and_false]
    split <;> rfl
  | false =>
    simp only [dataDriven, hsend, Bool.false_eq_true, if_false, Bool.not_false, Bool.and_true]
    split <;> rfl

/-- Settles O18: the write is `execWrSdataLo`, equal to one store and its calls; the read is one `busGetData`. -/
theorem dataLatchAccesses : Obligations.DataLatchAccesses := by
  unfold Obligations.DataLatchAccesses
  constructor
  · exact fun v s => completes_of_complete (execWrSdataLo_eq v s)
  · intro s
    obtain ⟨d, hd, hget⟩ := busGetData_spec s
    have hread : exec .rdSdataLo s = answer (byteWord (busGetData s).1) (busGetData s).2 := rfl
    rw [hget] at hread
    exact ⟨d, hd, completes_of_answer hread⟩

/-- Settles O22: the lines are asked one after the other, and the words hold the answers at their bits. -/
theorem busStatusReadsReturnTheLevels : Obligations.BusStatusReadsReturnTheLevels := by
  unfold Obligations.BusStatusReadsReturnTheLevels
  constructor
  · intro s
    obtain ⟨rst, h, hrst⟩ := (Asked.refl s).busGet .rst
    obtain ⟨bsy, h, hbsy⟩ := h.busGet .bsy
    obtain ⟨req, h, hreq⟩ := h.busGet .req
    obtain ⟨msg, h, hmsg⟩ := h.busGet .msg
    obtain ⟨cd, h, hcd⟩ := h.busGet .cd
    obtain ⟨io, h, hio⟩ := h.busGet .io
    obtain ⟨sel, h, hsel⟩ := h.busGet .sel
    have hexec : exec .rdSbusLo s = execRdSbusLo s := rfl
    refine ⟨rst, bsy, req, msg, cd, io, sel, h.answered, completes_of_answer (hexec.trans ?_)⟩
    unfold execRdSbusLo
    dsimp only
    rw [hrst, hbsy, hreq, hmsg, hcd, hio, hsel, h.state]
    rfl
  · intro s
    obtain ⟨msg, h, hmsg⟩ := (Asked.refl s).busGet .msg
    obtain ⟨cd, h, hcd⟩ := h.busGet .cd
    obtain ⟨io, h, hio⟩ := h.busGet .io
    obtain ⟨atn, h, hatn⟩ := h.busGet .atn
    obtain ⟨ack, h, hack⟩ := h.busGet .ack
    have hexec : exec .rdSstatLo s = execRdSstatLo s := rfl
    refine ⟨msg, cd, io, atn, ack, h.answered, completes_of_answer (hexec.trans ?_)⟩
    unfold execRdSstatLo
    dsimp only
    rw [if_pos rfl, ackOut, ← Bool.or_assoc] at hack
    rw [hmsg, hcd, hio, hatn, hack, h.state, sstatWord_eq]
    rfl

/-! ## SSTAT and SRST written, SRST read (41_memory_dma_registers.md R275, R277) -/

/-- Settles O23: DMA_MODE is SMODE's bit 1, and each write tests it once. -/
theorem transferStartsAndStatusReset : Obligations.TransferStartsAndStatusReset := by
  unfold Obligations.TransferStartsAndStatusReset
  intro v s
  refine ⟨fun hmode => ?started, fun hmode => ?ignored, completes_of_answer rfl⟩
  case started => exact ⟨completes_of_complete (if_pos hmode), completes_of_complete (if_pos hmode)⟩
  case ignored =>
    have hnot : ¬dmaMode s.scsi = true := ne_true_of_eq_false hmode
    exact ⟨completes_of_complete (if_neg hnot), completes_of_complete (if_neg hnot)⟩

/-! ## The phase latch and the read-backs (41_memory_dma_registers.md R271 to R274, R276, R278) -/

/-- Settles O21: one masked store, four plain reads, three inert writes. -/
theorem phaseLatchAndScsiReadBack : Obligations.PhaseLatchAndScsiReadBack := by
  unfold Obligations.PhaseLatchAndScsiReadBack
  intro v s
  exact ⟨completes_of_complete rfl, justReads_of_answer rfl, justReads_of_answer rfl, justReads_of_answer rfl,
    justReads_of_answer rfl, noEffect_of_inertWrite rfl, noEffect_of_inertWrite rfl, noEffect_of_inertWrite rfl⟩

end Sys2Proof.Machine
end

section
/-! Who may write the palette, KRAM, the transfer state and the pending flags (41_memory_dma_registers.md R296;
43_palette_yuv.md R411; 45_dma_scsi_handshake.md R501; 60_exceptions.md R552, R555). -/

namespace Sys2Proof.Machine

/-! ## RUN clears no pending flag (60_exceptions.md R552) -/

/-- Every flag pending in `p` is pending in `q`. -/
structure PendingWithin (p q : Pending) : Prop where
  dma : p.dma = true → q.dma = true
  phase : p.phase = true → q.phase = true
  subch : p.subch = true → q.subch = true
  raster : p.raster = true → q.raster = true

namespace PendingWithin
variable {p q r : Pending}

@[refl] theorem refl (p : Pending) : PendingWithin p p := ⟨id, id, id, id⟩

theorem trans (h : PendingWithin p q) (k : PendingWithin q r) : PendingWithin p r :=
  ⟨k.dma ∘ h.dma, k.phase ∘ h.phase, k.subch ∘ h.subch, k.raster ∘ h.raster⟩

theorem of_eq (h : q = p) : PendingWithin p q := h ▸ refl p

theorem ite {c : Prop} [Decidable c] {s t : State} (hs : PendingWithin p s.pend) (ht : PendingWithin p t.pend) :
    PendingWithin p (if c then s else t).pend := by
  split
  · exact hs
  · exact ht

end PendingWithin

section
variable (s : State)

theorem pendingWithin_phaseCheck (req : Bool) : PendingWithin s.pend (phaseCheck req s).pend := by
  refine .ite (.ite (.of_eq (by simp)) ?mismatch) (.refl _)
  case mismatch => exact ⟨by simp, fun _ => rfl, by simp, by simp⟩

theorem pendingWithin_dmaCount : PendingWithin s.pend (dmaCount s).pend := by
  refine .ite (.refl _) (.ite ?finish (.refl _))
  case finish => exact ⟨fun _ => rfl, id, id, id⟩

theorem pendingWithin_receiveByte : PendingWithin s.pend (receiveByte s).pend := by
  have hdata : PendingWithin s.pend (busGetData s).2.pend := .of_eq (by simp)
  refine .ite ?real (.ite hdata hdata)
  case real => simpa using pendingWithin_dmaCount (dmaPack (busGetData s).1 (busGetData s).2)

theorem pendingWithin_handshakeTick : PendingWithin s.pend (handshakeTick s).pend := by
  have hcheck := pendingWithin_phaseCheck (busGet .ack (busGet .req s).2).2 (busGet .req s).1
  rw [busGet_pend, busGet_pend] at hcheck
  exact .ite (by simpa using hcheck)
    (.ite (hcheck.trans (pendingWithin_receiveByte _)) (.ite (by simpa using hcheck) hcheck))

theorem pendingWithin_lineStep : PendingWithin s.pend (lineStep s).pend := by
  rw [lineStep, frameBoundary_pend]
  exact .ite ⟨id, id, id, fun _ => rfl⟩ (.refl _)

theorem pendingWithin_extService : PendingWithin s.pend (extService s).pend :=
  .ite ⟨by simp, by simp, fun _ => rfl, by simp⟩ (.of_eq (by simp))

end

/-- No part of a chunk clears a pending flag. -/
theorem pendingWithin_keptByParts (p : Pending) : KeptByParts (fun s => PendingWithin p s.pend) where
  setRequests _ _ h := h
  setReply _ _ h := h
  reevalIrq s h := by simpa using h
  tileAdvance c s h := by simpa using h
  countDown c s h := h
  setPhase ph s h := h
  setPhaseCount s h := h
  enterP1 s h := by simpa using h
  lineStep s h := h.trans (pendingWithin_lineStep s)
  latch s h := h
  bgStep s h := by simpa using h
  overlayLine s h := by simpa using h
  clearTileBuffer s h := h
  handshakeTick s h := h.trans (pendingWithin_handshakeTick s)
  reloadHscnt s h := h
  extService s h := h.trans (pendingWithin_extService s)

/-! ## What an instruction leaves of the shared state -/

/-- SCACHE, the handshake flags, DMA_FF and DMA_LO. -/
def transferState (s : State) : Byte × Bool × Bool × Bool × Bool × Bool × Byte :=
  (s.scsi.scache, s.scsi.drq, s.scsi.recvAct, s.scsi.sendAct, s.scsi.hsAck, s.dma.ff, s.dma.lo)

/-- The accesses that start, stop or clock a transfer. -/
inductive TransferAccess : Instr → Prop where
  | wrSdataLo (v : Word) : TransferAccess (.wrSdataLo v)
  | wrSmodeLo (v : Word) : TransferAccess (.wrSmodeLo v)
  | wrSstatLo (v : Word) : TransferAccess (.wrSstatLo v)
  | wrSrstLo (v : Word) : TransferAccess (.wrSrstLo v)
  | rdSackLo : TransferAccess .rdSackLo

/-- The parts of the shared state are in `e` what they are in `s`, the transfer state left aside. -/
structure SameStores (s e : State) : Prop where
  pcache : e.pcache = s.pcache
  pal : e.palette.pal = s.palette.pal
  kram : e.kram = s.kram
  pend : e.pend = s.pend

/-- What instruction `i` keeps of the shared state when it takes `s` to `e`: each part unless `i` is among those that
write it. -/
structure KeepsShared (i : Instr) (s e : State) : Prop where
  palette : (∀ v, i ≠ .wrPalwdata v) → e.pcache = s.pcache ∧ e.palette.pal = s.palette.pal
  kram : (∀ v, i ≠ .wrKramdataLo v) → (∀ n, i ≠ .run n) → e.kram = s.kram
  transfer : ¬TransferAccess i → (∀ n, i ≠ .run n) → transferState e = transferState s
  cleared : i ≠ .rdKstat → i ≠ .rdSrstLo → PendingWithin s.pend e.pend
  clearedBySrst : i = .rdSrstLo → PendingWithin { s.pend with phase := false } e.pend
  raised : (∀ n, i ≠ .run n) → PendingWithin e.pend s.pend

section
variable {i : Instr} {s e : State}

theorem SameStores.keepsShared (h : SameStores s e) (ht : ¬TransferAccess i → transferState e = transferState s) :
    KeepsShared i s e where
  palette _ := ⟨h.pcache, h.pal⟩
  kram _ _ := h.kram
  transfer hi _ := ht hi
  cleared _ _ := .of_eq h.pend
  clearedBySrst _ := h.pend ▸ ⟨id, nofun, id, id⟩
  raised _ := .of_eq h.pend.symm

/-- The outcome `o` is the completion of an effect that keeps the shared state but for what `i` writes. -/
def CompletesKeeping (s : State) (i : Instr) (o : Host.Outcome State Fault Refusal) : Prop :=
  ∃ (e : State) (r : Reply), KeepsShared i s e ∧ o = .next (reevalIrq (e.setReply r))

theorem KeepsShared.complete (h : KeepsShared i s e) : CompletesKeeping s i (complete e) := ⟨e, _, h, complete_eq e⟩

theorem KeepsShared.answer (h : KeepsShared i s e) (r : Word) : CompletesKeeping s i (answer r e) :=
  ⟨e, _, h, answer_eq e r⟩

theorem completesKeeping_complete (h : SameStores s e) (ht : transferState e = transferState s) :
    CompletesKeeping s i (complete e) :=
  (h.keepsShared fun _ => ht).complete

theorem completesKeeping_answer {r : Word} (h : SameStores s e) (ht : transferState e = transferState s) :
    CompletesKeeping s i (answer r e) :=
  (h.keepsShared fun _ => ht).answer r

theorem TransferAccess.complete (hi : TransferAccess i) (h : SameStores s e) : CompletesKeeping s i (complete e) :=
  (h.keepsShared fun hnot => absurd hi hnot).complete

theorem TransferAccess.answer {r : Word} (hi : TransferAccess i) (h : SameStores s e) :
    CompletesKeeping s i (answer r e) :=
  (h.keepsShared fun hnot => absurd hi hnot).answer r

end

section
variable (s : State)

@[simp] theorem transferState_kStoreLo (r : KReg) (v : Word) : transferState (kStoreLo s r v) = transferState s := by
  cases r <;> rfl

@[simp] theorem transferState_kStoreHi (r : KReg) (v : Word) : transferState (kStoreHi s r v) = transferState s := by
  cases r <;> rfl

@[simp] theorem transferState_notifyPlay (r : KReg) : transferState (notifyPlay r s) = transferState s := by
  simp [transferState]

theorem completesKeeping_wrSdataLo (v : Word) : CompletesKeeping s (.wrSdataLo v) (execWrSdataLo v s) := by
  rw [execWrSdataLo_eq]
  exact TransferAccess.complete (.wrSdataLo v) ⟨rfl, rfl, rfl, rfl⟩

theorem completesKeeping_wrSmodeLo (v : Word) : CompletesKeeping s (.wrSmodeLo v) (execWrSmodeLo v s) := by
  cases hmode : v.getLsbD 1 with
  | true =>
    rw [execWrSmodeLo_of_dmaMode hmode]
    exact TransferAccess.complete (.wrSmodeLo v) ⟨rfl, rfl, rfl, rfl⟩
  | false =>
    rw [execWrSmodeLo_of_not_dmaMode hmode]
    exact TransferAccess.complete (.wrSmodeLo v) ⟨by simp, by simp, by simp, by simp⟩

theorem completesKeeping_wrSstatLo (v : Word) : CompletesKeeping s (.wrSstatLo v) (execWrSstatLo v s) := by
  unfold execWrSstatLo
  split <;> exact TransferAccess.complete (.wrSstatLo v) ⟨rfl, rfl, rfl, rfl⟩

theorem completesKeeping_wrSrstLo (v : Word) : CompletesKeeping s (.wrSrstLo v) (execWrSrstLo v s) := by
  unfold execWrSrstLo
  split <;> exact TransferAccess.complete (.wrSrstLo v) ⟨rfl, rfl, rfl, rfl⟩

theorem completesKeeping_rdSackLo : CompletesKeeping s .rdSackLo (execRdSackLo s) := by
  unfold execRdSackLo
  split <;> exact TransferAccess.answer .rdSackLo ⟨by simp, by simp, by simp, by simp⟩

theorem completesKeeping_playfetch (c : Channel) : CompletesKeeping s (.playfetch c) (execPlayfetch c s) := by
  unfold execPlayfetch
  split <;> exact completesKeeping_answer ⟨rfl, rfl, rfl, rfl⟩ rfl

theorem keepsShared_wrPalwdata (v : Word) :
    KeepsShared (.wrPalwdata v) s
      ((s.setPcache (pcacheSet s.pcache s.palette.cur (expand v))).setPalette (palettePush s.palette v)) where
  palette hi := absurd rfl (hi v)
  kram _ _ := rfl
  transfer _ _ := rfl
  cleared _ _ := .refl _
  clearedBySrst := nofun
  raised _ := .refl _

theorem keepsShared_wrKramdataLo (v : Word) : KeepsShared (.wrKramdataLo v) s (cursorWrite v s) where
  palette _ := ⟨rfl, rfl⟩
  kram hi := absurd rfl (hi v)
  transfer _ _ := rfl
  cleared _ _ := .refl _
  clearedBySrst := nofun
  raised _ := .refl _

theorem keepsShared_rdKstat : KeepsShared .rdKstat s (s.setPend Pending.zero) where
  palette _ := ⟨rfl, rfl⟩
  kram _ _ := rfl
  transfer _ _ := rfl
  cleared hi := absurd rfl hi
  clearedBySrst := nofun
  raised _ := ⟨nofun, nofun, nofun, nofun⟩

theorem keepsShared_rdSrstLo : KeepsShared .rdSrstLo s (s.setPend { s.pend with phase := false }) where
  palette _ := ⟨rfl, rfl⟩
  kram _ _ := rfl
  transfer _ _ := rfl
  cleared _ hi := absurd rfl hi
  clearedBySrst _ := .refl _
  raised _ := ⟨id, nofun, id, id⟩

theorem keepsShared_run (n : Nat) : KeepsShared (.run n) s (runClocks n s) where
  palette _ := ⟨by simp, by simp⟩
  kram _ hi := absurd rfl (hi n)
  transfer _ hi := absurd rfl (hi n)
  cleared _ _ := (pendingWithin_keptByParts s.pend).runClocks (.refl _) n
  clearedBySrst := nofun
  raised hi := absurd rfl (hi n)

end

/-- Whatever its form, an instruction other than RESET and RESTORE completes such an effect. -/
theorem ExecForm.completesKeeping {s : State} {i : Instr} {o : Host.Outcome State Fault Refusal} (h : ExecForm s i o)
    (hreset : ∀ n, i ≠ .reset n) (hrestore : ∀ x, i ≠ .restore x) : CompletesKeeping s i o := by
  cases h with
  | reset n => exact absurd rfl (hreset n)
  | restore x => exact absurd rfl (hrestore x)
  | read r => exact completesKeeping_answer ⟨rfl, rfl, rfl, rfl⟩ rfl
  | inert => exact completesKeeping_complete ⟨rfl, rfl, rfl, rfl⟩ rfl
  | save => exact ⟨s, _, SameStores.keepsShared ⟨rfl, rfl, rfl, rfl⟩ fun _ => rfl, rfl⟩
  | storeC r v | wrCar v | wrKar v | wrPaladdr v | wrMpdataLo v | wrSphaseLo v =>
    exact completesKeeping_complete ⟨rfl, rfl, rfl, rfl⟩ rfl
  | rdPalrdata | rdAdstatLo | rdKramdataLo =>
    exact completesKeeping_answer ⟨rfl, rfl, rfl, rfl⟩ rfl
  | storeLo r v | storeHi r v => exact completesKeeping_complete ⟨by simp, by simp, by simp, by simp⟩ (by simp)
  | wrScmdLo v => exact completesKeeping_complete ⟨by simp, by simp, by simp, by simp⟩ (by simp [transferState])
  | rdSdataLo | rdSbusLo | rdSstatLo =>
    exact completesKeeping_answer ⟨by simp, by simp, by simp, by simp⟩ (by simp [transferState])
  | wrPalwdata v => exact (keepsShared_wrPalwdata s v).complete
  | wrKramdataLo v => exact (keepsShared_wrKramdataLo s v).complete
  | rdKstat => exact (keepsShared_rdKstat s).answer _
  | rdSrstLo => exact (keepsShared_rdSrstLo s).answer _
  | run n => exact (keepsShared_run s n).complete
  | wrSdataLo v => exact completesKeeping_wrSdataLo s v
  | wrSmodeLo v => exact completesKeeping_wrSmodeLo s v
  | wrSstatLo v => exact completesKeeping_wrSstatLo s v
  | wrSrstLo v => exact completesKeeping_wrSrstLo s v
  | rdSackLo => exact completesKeeping_rdSackLo s
  | playfetch c => exact completesKeeping_playfetch s c

/-- Completing an effect writes none of the shared state. -/
theorem KeepsShared.reevalIrq_setReply {i : Instr} {s e : State} (h : KeepsShared i s e) (r : Reply) :
    KeepsShared i s (reevalIrq (e.setReply r)) := by
  have htransfer : transferState (reevalIrq (e.setReply r)) = transferState e := by simp [transferState]
  exact ⟨by simpa using h.palette, by simpa using h.kram, htransfer ▸ h.transfer, by simpa using h.cleared,
    by simpa using h.clearedBySrst, by simpa using h.raised⟩

/-- Every instruction but RESET and RESTORE keeps the shared state but for what it writes. -/
theorem keepsShared_of_exec {i : Instr} {s t : State} (hexec : exec i s = .next t) (hreset : ∀ n, i ≠ .reset n)
    (hrestore : ∀ x, i ≠ .restore x) : KeepsShared i s t := by
  obtain ⟨e, r, he, ho⟩ := (exec_form i s).completesKeeping hreset hrestore
  obtain rfl : t = reevalIrq (e.setReply r) := Host.Outcome.next.inj (hexec.symm.trans ho)
  exact he.reevalIrq_setReply r

/-- Settles O50: an instruction writes only the shared parts it is named for, by the inversion of `exec`. -/
theorem onlyTheirOwnAccessesChangeSharedState : Obligations.OnlyTheirOwnAccessesChangeSharedState := by
  unfold Obligations.OnlyTheirOwnAccessesChangeSharedState
  intro i s t hexec hreset hrestore
  obtain ⟨hpalette, hkram, htransfer, hcleared, hbySrst, hraised⟩ := keepsShared_of_exec hexec hreset hrestore
  refine ⟨hpalette, fun hi hrun a => by rw [hkram hi hrun], fun hsdata hsmode hsstat hsrst hsack hrun => ?transfer,
    fun hkstat => ?cleared, fun hrun => ?raised⟩
  case transfer =>
    have hnot : ¬TransferAccess i := fun haccess => by
      cases haccess with
      | wrSdataLo v => exact hsdata v rfl
      | wrSmodeLo v => exact hsmode v rfl
      | wrSstatLo v => exact hsstat v rfl
      | wrSrstLo v => exact hsrst v rfl
      | rdSackLo => exact hsack rfl
    simpa [transferState] using htransfer hnot hrun
  case cleared =>
    by_cases hi : i = .rdSrstLo
    · have hpend := hbySrst hi
      exact ⟨hpend.dma, hpend.subch, hpend.raster, fun hnot => absurd hi hnot⟩
    · have hpend := hcleared hkstat hi
      exact ⟨hpend.dma, hpend.subch, hpend.raster, fun _ => hpend.phase⟩
  case raised =>
    have hpend := hraised hrun
    exact ⟨hpend.dma, hpend.phase, hpend.subch, hpend.raster⟩

end Sys2Proof.Machine
end

section
/-! The line step and the phase steps: what each leaves of the timing, the output and the calls, and the frames they
count (42_timing_scheduler.md R362 to R368). -/

namespace Sys2Proof.Machine

/-! ## The line step (42_timing_scheduler.md R364 to R366) -/

theorem lineCount_eq (pmode : Word) : lineCount pmode = if pmode.getLsbD 0 then 263 else 262 := by
  unfold lineCount line263
  cases pmode.getLsbD 0 <;> rfl

/-- The successor of a line within the frame, as a number. -/
theorem toNat_nextRaster (pmode : Word) (l : BitVec 9) :
    (nextRaster pmode l).toNat = if lineCount pmode ≤ l.toNat + 1 then 0 else l.toNat + 1 := by
  have hcount := lineCount_le pmode
  unfold nextRaster
  split
  · rfl
  next hlt => exact BitVec.toNat_add_of_lt (by simp; omega)

theorem nextRaster_eq_zero_iff (pmode : Word) (l : BitVec 9) :
    nextRaster pmode l = 0 ↔ lineCount pmode ≤ l.toNat + 1 := by
  rw [← BitVec.toNat_inj, toNat_nextRaster]
  simp

theorem rasterInterrupt_pend (s : State) :
    (rasterInterrupt s).pend =
      { s.pend with
        raster := s.pend.raster || (s.timing.raster == s.ovl.rirqLine && rasterIrqEnabled s.ovl) } := by
  unfold rasterInterrupt
  split
  next h =>
    obtain ⟨hline, hen⟩ := h
    simp [hline, hen]
  next h =>
    have hoff : (s.timing.raster == s.ovl.rirqLine && rasterIrqEnabled s.ovl) = false := by simpa using h
    rw [hoff, Bool.or_false]

section
variable (s : State)

theorem lineStep_pend :
    (lineStep s).pend =
      { s.pend with
        raster :=
          s.pend.raster || (nextRaster s.pic.pmode s.timing.raster == s.ovl.rirqLine && rasterIrqEnabled s.ovl) } := by
  rw [lineStep, frameBoundary_pend, rasterInterrupt_pend]
  rfl

theorem lineStep_raster : (lineStep s).timing.raster = nextRaster s.pic.pmode s.timing.raster := by
  obtain ⟨odd, htiming⟩ := lineStep_timing s
  rw [htiming]

/-- A line step to a line but 0 makes no frame boundary. -/
theorem lineStep_of_nextRaster_ne (h : nextRaster s.pic.pmode s.timing.raster ≠ 0) :
    (lineStep s).out = s.out ∧ (lineStep s).timing.odd = s.timing.odd ∧ (lineStep s).calls = s.calls := by
  rw [lineStep, frameBoundary, if_neg (by simpa using h)]
  simp

/-- A line step to line 0 counts the frame, reports its picture and calls both tile chips. -/
theorem lineStep_of_nextRaster_eq (h : nextRaster s.pic.pmode s.timing.raster = 0) :
    (lineStep s).out =
        { s.out with
          frames := s.out.frames + 1, interlace := interlaced s.pic.pmode, height := s.cfg.visibleLines } ∧
      (lineStep s).timing.odd = (interlaced s.pic.pmode && !s.timing.odd) ∧
      (lineStep s).calls = .tileVsync .tile1 :: .tileVsync .tile0 :: s.calls := by
  rw [lineStep, frameBoundary, if_pos (by simpa using h)]
  simp [call]

theorem lineStep_frames :
    (lineStep s).out.frames = s.out.frames + if nextRaster s.pic.pmode s.timing.raster = 0 then 1 else 0 := by
  split
  next h => rw [(lineStep_of_nextRaster_eq s h).1]
  next h => rw [(lineStep_of_nextRaster_ne s h).1, Nat.add_zero]

end

/-- Settles O40: the raster, the interrupt and the frame boundary of one line step. -/
theorem lineStepCountsInterruptsAndEndsTheFrame : Obligations.LineStepCountsInterruptsAndEndsTheFrame := by
  unfold Obligations.LineStepCountsInterruptsAndEndsTheFrame
  intro s
  rw [← lineCount_eq]
  obtain ⟨odd, htiming⟩ := lineStep_timing s
  refine ⟨lineStep_raster s, lineStep_pend s, fun hzero => ?boundary, lineStep_of_nextRaster_ne s, ?frame⟩
  case boundary =>
    obtain ⟨hout, hodd, hcalls⟩ := lineStep_of_nextRaster_eq s hzero
    rw [hout]
    exact ⟨rfl, hodd, rfl, rfl, rfl, rfl, hcalls⟩
  case frame => simp [htiming]

/-! ## The phase step (42_timing_scheduler.md R362, R363, R367) -/

/-- The cycle of the phases (42_timing_scheduler.md R363). -/
def nextPhase : Phase → Phase
  | .active => .part1
  | .part1 => .part3
  | .part3 => .part4
  | .part4 => .active

/-- The line step is taken on leaving this phase (42_timing_scheduler.md R367). -/
def lineStepDue (c : Params) : Phase → Bool
  | .active | .part1 => false
  | .part3 => c.rasterIncAt = .exitP3
  | .part4 => c.rasterIncAt = .entryActive

/-- The state a phase step starts from: the line step taken if it is due. -/
def afterLineStep (s : State) : State := if lineStepDue s.cfg s.timing.hphase then lineStep s else s

section
variable (s : State)

theorem afterLineStep_timing :
    ∃ odd, (afterLineStep s).timing =
      { s.timing with
        raster :=
          if lineStepDue s.cfg s.timing.hphase then nextRaster s.pic.pmode s.timing.raster else s.timing.raster
        odd := odd } := by
  unfold afterLineStep
  split
  · exact lineStep_timing s
  · exact ⟨_, rfl⟩

theorem afterLineStep_frames :
    (afterLineStep s).out.frames =
      s.out.frames +
        if lineStepDue s.cfg s.timing.hphase = true ∧ nextRaster s.pic.pmode s.timing.raster = 0 then 1 else 0 := by
  unfold afterLineStep
  by_cases hdue : lineStepDue s.cfg s.timing.hphase = true
  · simp [hdue, lineStep_frames]
  · simp [hdue]

variable {s}

theorem afterLineStep_of_not_due (h : lineStepDue s.cfg s.timing.hphase = false) : afterLineStep s = s := by
  rw [afterLineStep, h]
  rfl

theorem phaseStep_of_active (h : s.timing.hphase = .active) :
    phaseStep s = setPhaseCount (enterP1 (setPhase .part1 s)) := by
  rw [phaseStep, h]

theorem phaseStep_of_part1 (h : s.timing.hphase = .part1) : phaseStep s = setPhaseCount (setPhase .part3 s) := by
  rw [phaseStep, h]

theorem phaseStep_of_part3 (h : s.timing.hphase = .part3) :
    phaseStep s = setPhaseCount (setPhase .part4 (afterLineStep s)) := by
  rw [phaseStep, afterLineStep, h]
  simp [lineStepDue]

theorem phaseStep_of_part4 (h : s.timing.hphase = .part4) :
    phaseStep s = setPhaseCount (enterActive (setPhase .active (afterLineStep s))) := by
  rw [phaseStep, afterLineStep, h]
  simp [lineStepDue]

variable (s)

@[simp] theorem afterLineStep_pic : (afterLineStep s).pic = s.pic := by
  unfold afterLineStep
  split <;> simp

@[simp] theorem afterLineStep_cfg : (afterLineStep s).cfg = s.cfg := by
  unfold afterLineStep
  split <;> simp

/-- A phase step enters the next phase for its duration; else it leaves the timing to the line step. -/
theorem phaseStep_timing :
    (phaseStep s).timing =
      { (afterLineStep s).timing with
        hphase := nextPhase s.timing.hphase
        hcnt := s.cfg.duration (nextPhase s.timing.hphase) (dotClock s.pic.pmode) (line263 s.pic.pmode) } := by
  cases h : s.timing.hphase with
  | active =>
    have hnone := afterLineStep_of_not_due (s := s) (by rw [h]; rfl)
    simp [phaseStep_of_active h, hnone, setPhaseCount, setPhase, nextPhase]
  | part1 =>
    have hnone := afterLineStep_of_not_due (s := s) (by rw [h]; rfl)
    simp [phaseStep_of_part1 h, hnone, setPhaseCount, setPhase, nextPhase]
  | part3 => simp [phaseStep_of_part3 h, setPhaseCount, setPhase, nextPhase]
  | part4 => simp [phaseStep_of_part4 h, setPhaseCount, setPhase, nextPhase]

theorem phaseStep_hphase : (phaseStep s).timing.hphase = nextPhase s.timing.hphase := by
  rw [phaseStep_timing]

theorem phaseStep_hcnt :
    (phaseStep s).timing.hcnt =
      s.cfg.duration (nextPhase s.timing.hphase) (dotClock s.pic.pmode) (line263 s.pic.pmode) := by
  rw [phaseStep_timing]

theorem phaseStep_raster :
    (phaseStep s).timing.raster =
      if lineStepDue s.cfg s.timing.hphase then nextRaster s.pic.pmode s.timing.raster else s.timing.raster := by
  obtain ⟨odd, htiming⟩ := afterLineStep_timing s
  rw [phaseStep_timing, htiming]

theorem phaseStep_now : (phaseStep s).timing.now = s.timing.now := by
  obtain ⟨odd, htiming⟩ := afterLineStep_timing s
  rw [phaseStep_timing, htiming]

end

/-- Settles O42: a phase step sets HCNT to the duration of the phase it enters. -/
theorem phaseEntrySetsItsDuration : Obligations.PhaseEntrySetsItsDuration := by
  unfold Obligations.PhaseEntrySetsItsDuration
  intro s
  refine ⟨fun h => ?_, fun h => ?_, fun h => ?_, fun h => ?_⟩
  all_goals
    rw [phaseStep_hphase, phaseStep_hcnt, h]
    exact ⟨rfl, rfl⟩

/-! ## The end of the visible part of a line (42_timing_scheduler.md R368) -/

theorem visible_iff (c : Params) (l : BitVec 9) :
    visible c l = true ↔ c.firstVisible ≤ l.toNat ∧ l.toNat < c.firstVisible + c.visibleLines :=
  decide_eq_true_iff

section
variable (s : State)

theorem enterP1_calls : (enterP1 s).calls = .tileHsync .tile1 :: .tileHsync .tile0 :: s.calls := by
  unfold enterP1
  dsimp only
  split <;> rfl

theorem enterP1_out :
    (enterP1 s).out =
      if visible s.cfg s.rc.line then
        { s.out with
          rows := rowsPut (s.rc.line.toNat - s.cfg.firstVisible) (composeLine s.cfg (latched s) s.line) s.out.rows
          width := s.cfg.widthOf (dotClock s.rc.pic.pmode) }
      else s.out := by
  unfold enterP1
  dsimp only
  split <;> rfl

/-- Composing a row counts no frame and reports neither height nor interlace. -/
theorem enterP1_report :
    (enterP1 s).out.frames = s.out.frames ∧ (enterP1 s).out.height = s.out.height ∧
      (enterP1 s).out.interlace = s.out.interlace := by
  rw [enterP1_out]
  split <;> exact ⟨rfl, rfl, rfl⟩

end

/-- Settles O43: leaving ACTIVE is `enterP1`, whose row is the only one stored. -/
theorem rowsAreComposedAtTheEndOfActive : Obligations.RowsAreComposedAtTheEndOfActive := by
  unfold Obligations.RowsAreComposedAtTheEndOfActive
  intro s h
  obtain ⟨hframes, hheight, hinterlace⟩ := enterP1_report (setPhase .part1 s)
  have hout := enterP1_out (setPhase .part1 s)
  rw [phaseStep_of_active h]
  dsimp only
  rw [← visible_iff, setPhaseCount_out]
  refine ⟨enterP1_calls _, by simp, by simp, by simp, hframes, hheight, hinterlace, fun hshown => ?shown,
    fun hhidden => ?hidden⟩
  case shown =>
    rw [hout.trans (if_pos hshown)]
    exact ⟨(lookup_rowsPut ..).trans (if_pos rfl), fun k hk => (lookup_rowsPut ..).trans (if_neg hk), rfl⟩
  case hidden => exact hout.trans (if_neg hhidden)

/-! ## Frames (42_timing_scheduler.md R363, R364, R366, R367) -/

theorem phaseStep_frames (s : State) :
    (phaseStep s).out.frames =
      s.out.frames +
        if lineStepDue s.cfg s.timing.hphase = true ∧ nextRaster s.pic.pmode s.timing.raster = 0 then 1 else 0 := by
  rw [← afterLineStep_frames]
  cases h : s.timing.hphase with
  | active =>
    have hnone := afterLineStep_of_not_due (s := s) (by rw [h]; rfl)
    rw [phaseStep_of_active h, hnone]
    exact (enterP1_report _).1
  | part1 =>
    have hnone := afterLineStep_of_not_due (s := s) (by rw [h]; rfl)
    rw [phaseStep_of_part1 h, hnone]
    rfl
  | part3 => rw [phaseStep_of_part3 h]; rfl
  | part4 => rw [phaseStep_of_part4 h]; simp

/-- One cycle of the phases from ACTIVE: three steps through the other phases, the line counted once, whichever phase
step counts it. -/
structure PhaseCycle (s : State) : Prop where
  part1 : (phaseStep s).timing.hphase = .part1
  part3 : (phaseStep^[2] s).timing.hphase = .part3
  part4 : (phaseStep^[3] s).timing.hphase = .part4
  active : (phaseStep^[4] s).timing.hphase = .active
  rasterPart1 : (phaseStep s).timing.raster = s.timing.raster
  rasterPart3 : (phaseStep^[2] s).timing.raster = s.timing.raster
  raster : (phaseStep^[4] s).timing.raster = nextRaster s.pic.pmode s.timing.raster
  frames :
    (phaseStep^[4] s).out.frames = s.out.frames + if nextRaster s.pic.pmode s.timing.raster = 0 then 1 else 0
  pic : (phaseStep^[4] s).pic = s.pic

theorem phaseCycle_of_active {s : State} (h : s.timing.hphase = .active) : PhaseCycle s := by
  constructor
  case raster | frames =>
    cases hinc : s.cfg.rasterIncAt <;>
      simp [phaseStep_raster, phaseStep_frames, phaseStep_hphase, h, nextPhase, lineStepDue, hinc]
  all_goals simp [phaseStep_raster, phaseStep_hphase, h, nextPhase, lineStepDue]

/-- In ACTIVE, `k` lines after a line 0 at which `f` frames were counted, PMODE being `p` all along. -/
structure LinesCounted (p : Word) (f k : Nat) (s : State) : Prop where
  active : s.timing.hphase = .active
  pmode : s.pic.pmode = p
  raster : s.timing.raster.toNat = k % lineCount p
  frames : s.out.frames = f + k / lineCount p

theorem LinesCounted.phaseCycle {p : Word} {f k : Nat} {s : State} (h : LinesCounted p f k s) :
    LinesCounted p f (k + 1) (phaseStep^[4] s) := by
  obtain ⟨hactive, rfl, hraster, hframes⟩ := h
  have hcycle := phaseCycle_of_active hactive
  have hcount : lineCount s.pic.pmode = 262 ∨ lineCount s.pic.pmode = 263 := by
    rw [lineCount_eq]
    split <;> simp
  refine ⟨hcycle.active, by rw [hcycle.pic], ?raster, ?frames⟩
  case raster =>
    rw [hcycle.raster, toNat_nextRaster, hraster]
    obtain hn | hn := hcount <;> rw [hn] <;> split <;> omega
  case frames =>
    simp only [hcycle.frames, hframes, nextRaster_eq_zero_iff, hraster]
    obtain hn | hn := hcount <;> rw [hn] <;> split <;> omega

/-- Every four phase steps count one line more. -/
theorem linesCounted_iterate {s : State} (hactive : s.timing.hphase = .active) (hzero : s.timing.raster = 0) (k : Nat) :
    LinesCounted s.pic.pmode s.out.frames k (phaseStep^[4 * k] s) := by
  induction k with
  | zero => exact ⟨hactive, rfl, by simp [hzero], by simp⟩
  | succ k ih =>
    rw [Nat.mul_succ, Nat.add_comm (4 * k) 4, Function.iterate_add_apply]
    exact ih.phaseCycle

/-- Settles O41: by induction over the cycles of four phase steps. -/
theorem everyFrameVisitsEveryLineOnce : Obligations.EveryFrameVisitsEveryLineOnce := by
  unfold Obligations.EveryFrameVisitsEveryLineOnce
  intro s k hactive hzero
  rw [← lineCount_eq]
  have hlines := linesCounted_iterate hactive hzero k
  have hcycle := phaseCycle_of_active hlines.active
  exact ⟨hlines.active, hlines.raster, hlines.frames, hcycle.part1, hcycle.part3, hcycle.part4, hcycle.rasterPart1,
    hcycle.rasterPart3⟩

end Sys2Proof.Machine
end

section
/-! RUN: the chunk loop, the clocks it passes, and the host's registers it leaves alone
(42_timing_scheduler.md R360, R361; 46_host_operations.md R532). -/

namespace Sys2Proof.Machine

/-! ## The chunk loop (42_timing_scheduler.md R360) -/

theorem one_le_chunk (s : State) (left : Nat) : 1 ≤ chunk s left := Nat.le_max_left ..

/-- A chunk takes no more than what is left of the budget. -/
theorem chunk_le (s : State) {left : Nat} (h : 1 ≤ left) : chunk s left ≤ left := by
  unfold chunk
  dsimp only
  split <;> omega

/-- Counters of at least 1 bound the chunk, the floor of `chunk` does not. -/
theorem chunk_eq {s : State} {left : Nat} (hleft : 1 ≤ left) (hhcnt : 1 ≤ s.timing.hcnt) (hhscnt : 1 ≤ s.timing.hscnt)
    (hext : s.extcnt ≠ some 0) :
    chunk s left =
      min (min s.timing.hcnt s.timing.hscnt) (s.extcnt.elim left (min · left)) := by
  unfold chunk
  cases hcnt : s.extcnt with
  | none =>
    dsimp only [Option.elim]
    omega
  | some e =>
    have hpos : e ≠ 0 := fun hzero => hext (by rw [hcnt, hzero])
    dsimp only [Option.elim]
    omega

/-- Fuel beyond the budget is not used: every chunk takes at least one clock. -/
theorem runLoop_eq_of_le {f g left : Nat} (s : State) (hf : left ≤ f) (hg : left ≤ g) :
    runLoop f left s = runLoop g left s := by
  induction f generalizing g left s with
  | zero =>
    obtain rfl := Nat.le_zero.1 hf
    cases g <;> rfl
  | succ f ih =>
    cases g with
    | zero =>
      obtain rfl := Nat.le_zero.1 hg
      rfl
    | succ g =>
      have hone := one_le_chunk s left
      simp only [runLoop]
      split
      · rfl
      · exact ih _ (by omega) (by omega)

/-- RUN of a budget is one chunk, then RUN of the rest. -/
theorem runClocks_of_one_le {n : Nat} (s : State) (h : 1 ≤ n) :
    runClocks n s = runClocks (n - chunk s n) (runChunk (chunk s n) s) := by
  obtain ⟨m, rfl⟩ := Nat.exists_eq_add_of_le' h
  have hone := one_le_chunk s (m + 1)
  rw [runClocks, runLoop, if_neg (Nat.succ_ne_zero m)]
  exact runLoop_eq_of_le _ (by omega) (Nat.le_refl _)

/-- Settles O35: the counters bound the chunk, and the loop's equation is `runClocks_of_one_le`. -/
theorem runIsTheChunkLoop : Obligations.RunIsTheChunkLoop := by
  unfold Obligations.RunIsTheChunkLoop
  intro n s hn hhcnt hhscnt hext c a b
  have hchunk : chunk s n = c := by
    rw [chunk_eq hn hhcnt hhscnt hext]
    cases h : s.extcnt <;> simp only [c, h, Option.elim]
  have hloop := runClocks_of_one_le s hn
  rw [hchunk] at hloop
  exact ⟨hchunk ▸ one_le_chunk s n, hchunk ▸ chunk_le s hn, hloop⟩

/-! ## The clocks that pass (42_timing_scheduler.md R360) -/

section
variable (s : State)

theorem servicePhase_now : (servicePhase s).timing.now = s.timing.now := by
  unfold servicePhase
  split
  · rw [reevalIrq_timing, phaseStep_now]
  · rfl

theorem serviceHandshake_now : (serviceHandshake s).timing.now = s.timing.now := by
  unfold serviceHandshake
  split <;> simp

theorem service_now : (service s).timing.now = s.timing.now := by
  rw [service, serviceExternal_timing, serviceHandshake_now, servicePhase_now]

theorem runChunk_now (c : Nat) : (runChunk c s).timing.now = s.timing.now + c := by
  rw [runChunk, service_now]
  simp [countDown, tileAdvance_timing]

end

/-- RUN passes exactly its budget of clocks. -/
theorem runClocks_now (n : Nat) (s : State) : (runClocks n s).timing.now = s.timing.now + n := by
  induction n using Nat.strong_induction_on generalizing s with
  | _ n ih =>
    obtain rfl | hn := Nat.eq_zero_or_pos n
    · rfl
    · have hone := one_le_chunk s n
      have hle := chunk_le s hn
      rw [runClocks_of_one_le s hn, ih _ (by omega), runChunk_now]
      omega

/-! ## What no clock writes (10_state.md R47; 45_dma_scsi_handshake.md R501) -/

/-- The SCSI latches that only the host writes. -/
def hostLatches (b : Scsi) : Byte × Byte × Byte × Byte := (b.sout, b.scmd, b.smode, b.sphase)

section
variable (s : State)

theorem hostLatches_phaseCheck (req : Bool) : hostLatches (phaseCheck req s).scsi = hostLatches s.scsi := by
  unfold phaseCheck
  dsimp only
  (repeat' split) <;> simp [hostLatches]

theorem hostLatches_dmaCount : hostLatches (dmaCount s).scsi = hostLatches s.scsi := by
  unfold dmaCount
  (repeat' split) <;> rfl

theorem hostLatches_receiveByte : hostLatches (receiveByte s).scsi = hostLatches s.scsi := by
  have hcount := hostLatches_dmaCount (dmaPack (busGetData s).1 (busGetData s).2)
  rw [dmaPack_scsi, busGetData_scsi] at hcount
  unfold receiveByte
  dsimp only
  split
  · rw [setHsAck_scsi, ← hcount]
    rfl
  · split <;> simp [hostLatches]

theorem hostLatches_handshakeTick : hostLatches (handshakeTick s).scsi = hostLatches s.scsi := by
  have hcheck := hostLatches_phaseCheck (busGet .ack (busGet .req s).2).2 (busGet .req s).1
  rw [busGet_scsi, busGet_scsi] at hcheck
  rw [← hcheck]
  unfold handshakeTick
  dsimp only
  (repeat' split)
  · rw [setHsAck_scsi]
    rfl
  · exact hostLatches_receiveByte _
  · rw [sendByte, State.setScsi_scsi, setHsAck_scsi]
    rfl
  · rfl

theorem rirqLine_overlayLine : (overlayLine s).ovl.rirqLine = s.ovl.rirqLine := by
  have hblock : (overlayBlock s).ovl.rirqLine = s.ovl.rirqLine := by simp [overlayBlock]
  unfold overlayLine
  dsimp only
  (repeat' split) <;> simp [hblock]

/-- The fields of SCSI, DMA and overlay that only the host writes are in `t` what they are in `s`. -/
def HostFieldsKept (s t : State) : Prop :=
  hostLatches t.scsi = hostLatches s.scsi ∧ t.dma.ctl = s.dma.ctl ∧ t.ovl.rirqLine = s.ovl.rirqLine

theorem hostFieldsKept_keptByParts : KeptByParts (HostFieldsKept s) where
  setRequests _ _ h := h
  setReply _ _ h := h
  reevalIrq t h := by simpa [HostFieldsKept] using h
  tileAdvance c t h := by simpa [HostFieldsKept] using h
  countDown c t h := h
  setPhase ph t h := h
  setPhaseCount t h := h
  enterP1 t h := by simpa [HostFieldsKept] using h
  lineStep t h := by simpa [HostFieldsKept] using h
  latch t h := h
  bgStep t h := by simpa [HostFieldsKept] using h
  overlayLine t h := by simpa [HostFieldsKept, rirqLine_overlayLine] using h
  clearTileBuffer t h := h
  handshakeTick t h := by
    simpa [HostFieldsKept, hostLatches_handshakeTick, (busAccess_handshakeTick t).dmaCtl] using h
  reloadHscnt t h := h
  extService t h := by simpa [HostFieldsKept] using h

end

/-- Settles O34: RUN completes, NOW moves by its budget, and no part of a chunk writes the host's registers. -/
theorem runAdvancesTimeByItsBudget : Obligations.RunAdvancesTimeByItsBudget := by
  unfold Obligations.RunAdvancesTimeByItsBudget
  have hexec (n : Nat) (s : State) : exec (.run n) s = complete (runClocks n s) := rfl
  refine ⟨fun s => completes_of_complete (hexec 0 s), fun n s => ?_⟩
  obtain ⟨hlatches, hctl, hline⟩ := (hostFieldsKept_keptByParts s).runClocks ⟨rfl, rfl, rfl⟩ n
  simp only [hostLatches, Prod.mk.injEq] at hlatches
  obtain ⟨hsout, hscmd, hsmode, hsphase⟩ := hlatches
  refine ⟨_, hexec n s, ?_⟩
  simp [runClocks_now, hsout, hscmd, hsmode, hsphase, hctl, hline]

end Sys2Proof.Machine
end

section
/-! Entering ACTIVE: the latch, the renderer's rows, the overlay's line and the cleared tile buffer
(42_timing_scheduler.md R369 to R373). -/

namespace Sys2Proof.Machine

/-! ## What the renderer and the overlay decoder answer (46_host_operations.md R536) -/

section
variable (s : State)

/-- A render: one call, the first queued answer if there is one, fitted, and nothing else. -/
theorem bgRender_spec (l : BitVec 9) :
    ∃ r : BgRows, Answered s.script.renders [r] ∧ (bgRender l s).1 = fitRows s.cfg r ∧
      (bgRender l s).2 =
        (call s (.bgRender l (bgState s) s.kram)).setScript
          { s.script with renders := s.script.renders.drop 1 } := by
  cases h : s.script.renders with
  | cons r rest => exact ⟨r, by simp [Answered], by simp [bgRender, h], by simp [bgRender, h]⟩
  | nil =>
    refine ⟨Config.bgRender (call s (.bgRender l (bgState s) s.kram)).calls, by simp [Answered],
      by simp [bgRender, h], ?_⟩
    have hscript : { s.script with renders := [].drop 1 } = s.script := by rw [List.drop_nil, ← h]
    rw [hscript]
    simp only [bgRender, call_script, h]
    rfl

/-- A decoded block, likewise. -/
theorem ovlDecodeBlock_spec (bank : Bool) (a : KAddr) :
    ∃ w : Nat, Answered s.script.blocks [w] ∧ (ovlDecodeBlock bank a s).1 = w ∧
      (ovlDecodeBlock bank a s).2 =
        (call s (.ovlDecodeBlock bank a)).setScript { s.script with blocks := s.script.blocks.drop 1 } := by
  cases h : s.script.blocks with
  | cons w rest => exact ⟨w, by simp [Answered], by simp [ovlDecodeBlock, h], by simp [ovlDecodeBlock, h]⟩
  | nil =>
    refine ⟨_, by simp [Answered], rfl, ?_⟩
    have hscript : { s.script with blocks := [].drop 1 } = s.script := by rw [List.drop_nil, ← h]
    rw [hscript]
    simp only [ovlDecodeBlock, call_script, h]
    rfl

/-- A fetched raster, likewise, fitted. -/
theorem ovlFetchRaster_spec (l : BitVec 9) (b : BitVec 10) :
    ∃ o : List PixEntry, Answered s.script.rasters [o] ∧ (ovlFetchRaster l b s).1 = fitRow s.cfg o ∧
      (ovlFetchRaster l b s).2 =
        (call s (.ovlFetchRaster l b)).setScript { s.script with rasters := s.script.rasters.drop 1 } := by
  cases h : s.script.rasters with
  | cons o rest => exact ⟨o, by simp [Answered], by simp [ovlFetchRaster, h], by simp [ovlFetchRaster, h]⟩
  | nil =>
    refine ⟨Config.ovlFetchRaster (call s (.ovlFetchRaster l b)).calls s.kram, by simp [Answered],
      by simp [ovlFetchRaster, h], ?_⟩
    have hscript : { s.script with rasters := [].drop 1 } = s.script := by rw [List.drop_nil, ← h]
    rw [hscript]
    simp only [ovlFetchRaster, call_script, h]
    rfl

/-! ## The parts of ENTER_ACTIVE (42_timing_scheduler.md R370 to R372) -/

variable {s}

theorem bgStep_of_hidden (h : visible s.cfg s.rc.line = false) :
    bgStep s = s.setLine { s.line with bgrows := clearRows s.cfg } := by
  rw [bgStep, h]
  rfl

/-- From `s` to `t` the renderer was called for RC's line and its answer put into BGROWS. -/
structure Rendered (s t : State) : Prop where
  bgrows : ∃ r : BgRows, Answered s.script.renders [r] ∧ t.line.bgrows = fitRows s.cfg r
  calls : t.calls = .bgRender s.rc.line (bgState s) s.kram :: s.calls
  blocks : t.script.blocks = s.script.blocks
  rasters : t.script.rasters = s.script.rasters

theorem bgStep_rendered (h : visible s.cfg s.rc.line = true) : Rendered s (bgStep s) := by
  obtain ⟨r, hr, hrows, hstate⟩ := bgRender_spec s s.rc.line
  rw [bgStep, if_pos h]
  dsimp only
  rw [hstate]
  exact ⟨⟨r, hr, hrows⟩, rfl, rfl, rfl⟩

theorem overlayLine_of_hidden (h : visible s.cfg s.rc.line = false) :
    overlayLine s = s.setLine { s.line with obuf := clearRow s.cfg } := by
  rw [overlayLine, h, Bool.and_false]
  rfl

theorem overlayLine_of_disabled (h : ovlEnabled s.ovl = false) :
    overlayLine s = s.setLine { s.line with obuf := clearRow s.cfg } := by
  rw [overlayLine, h, Bool.false_and]
  rfl

/-- From `m` to `t` the overlay's raster for RC's line was fetched into OBUF. -/
structure OverlayFetched (m t : State) : Prop where
  obuf : ∃ o : List PixEntry, Answered m.script.rasters [o] ∧ t.line.obuf = fitRow m.cfg o
  ovl : t.ovl = m.ovl
  calls : t.calls = .ovlFetchRaster m.rc.line (pbase m.pic .ovl) :: m.calls

/-- With EN and on a visible line the raster is fetched after the block, if one is left. -/
theorem overlayFetched_of_enabled (hen : ovlEnabled s.ovl = true) (hvis : visible s.cfg s.rc.line = true) :
    OverlayFetched (if s.ovl.blocks = 0 then s else overlayBlock s) (overlayLine s) := by
  rw [overlayLine, hen, hvis]
  generalize (if s.ovl.blocks = 0 then s else overlayBlock s) = m
  obtain ⟨o, ho, hrow, hstate⟩ := ovlFetchRaster_spec m m.rc.line (pbase m.pic .ovl)
  refine ⟨⟨o, ho, hrow⟩, ?_, ?_⟩
  · simp
  · simp [hstate, call]

/-- One block: the address moves by the words consumed, the count drops, EN clears with the last block. -/
theorem overlayBlock_spec (s : State) :
    ∃ w : Nat, Answered s.script.blocks [w] ∧
      (overlayBlock s).ovl =
        { s.ovl with
          addr := s.ovl.addr + BitVec.ofNat 18 w
          blocks := s.ovl.blocks - 1
          ctl := if s.ovl.blocks = 1 then s.ovl.ctl &&& 0xFFFE#16 else s.ovl.ctl } ∧
      (overlayBlock s).calls = .ovlDecodeBlock (bankOvl s.kctl) s.ovl.addr :: s.calls ∧
      (overlayBlock s).script.rasters = s.script.rasters := by
  obtain ⟨w, hw, hwords, hstate⟩ := ovlDecodeBlock_spec s (bankOvl s.kctl) s.ovl.addr
  have hlast : s.ovl.blocks - 1#16 = 0#16 ↔ s.ovl.blocks = 1#16 := sub_eq_zero
  refine ⟨w, hw, ?_, ?_, ?_⟩
  · simp [overlayBlock, hwords, hlast]
  · simp [overlayBlock, hstate, call]
  · simp [overlayBlock, hstate]

@[simp] theorem overlayLine_bgrows (s : State) : (overlayLine s).line.bgrows = s.line.bgrows := by
  unfold overlayLine
  dsimp only
  (repeat' split) <;> simp

end

/-! ## ENTER_ACTIVE (42_timing_scheduler.md R369) -/

theorem enterActive_latched (s : State) :
    (enterActive s).rc = { pic := s.pic, line := s.timing.raster } ∧
      (enterActive s).rcd = { pcache := s.pcache, rank := resolveRanks s.pic } := by
  constructor
  · rw [enterActive, clearTileBuffer_rc, overlayLine_rc, bgStep_rc]
    rfl
  · rw [enterActive, clearTileBuffer_rcd, overlayLine_rcd, bgStep_rcd]
    rfl

theorem enterActive_line (s : State) :
    (enterActive s).line =
      { tbuf := clearTiles s.cfg, tpos := 0, bgrows := (bgStep (latch s)).line.bgrows,
        obuf := (overlayLine (bgStep (latch s))).line.obuf } := by
  simp [enterActive, clearTileBuffer]

/-- On a line not shown no collaborator is called. -/
theorem enterActive_of_hidden {s : State} (h : visible s.cfg s.timing.raster = false) :
    (enterActive s).line.obuf = clearRow s.cfg ∧ (enterActive s).line.bgrows = clearRows s.cfg ∧
      (enterActive s).calls = s.calls ∧ (enterActive s).ovl = s.ovl := by
  rw [enterActive, bgStep_of_hidden (s := latch s) h,
    overlayLine_of_hidden (s := (latch s).setLine { (latch s).line with bgrows := clearRows (latch s).cfg }) h]
  exact ⟨rfl, rfl, rfl, rfl⟩

/-- With EN = 0 the overlay's line is TRANSPARENT. -/
theorem enterActive_of_disabled {s : State} (hen : ovlEnabled s.ovl = false) :
    (enterActive s).line.obuf = clearRow s.cfg ∧ (enterActive s).ovl = s.ovl ∧
      (enterActive s).calls = (bgStep (latch s)).calls := by
  have hoff : ovlEnabled (bgStep (latch s)).ovl = false := by simpa using hen
  rw [enterActive, overlayLine_of_disabled hoff]
  exact ⟨by simp [clearTileBuffer], by simp, rfl⟩

section
variable {s : State} (hshown : visible s.cfg s.timing.raster = true)
include hshown

theorem rendered_latch : Rendered (latch s) (bgStep (latch s)) := bgStep_rendered (s := latch s) hshown

/-- With EN = 1 the raster is fetched, from the state after the rows and the block. -/
theorem enterActive_fetched (hen : ovlEnabled s.ovl = true) :
    OverlayFetched (if s.ovl.blocks = 0 then bgStep (latch s) else overlayBlock (bgStep (latch s)))
      (enterActive s) := by
  obtain ⟨hobuf, hovl, hcalls⟩ :=
    overlayFetched_of_enabled (s := bgStep (latch s)) (by simpa using hen) (by rwa [bgStep_cfg, bgStep_rc])
  rw [bgStep_ovl, latch_ovl] at hobuf hovl hcalls
  exact ⟨hobuf, hovl, hcalls⟩

end

/-- A fetched row is the answer, fitted; a proper answer is used unchanged (log 13). -/
theorem OverlayFetched.row {s m t : State} (h : OverlayFetched m t) (hcfg : m.cfg = s.cfg)
    (hqueue : m.script.rasters = s.script.rasters) :
    ∃ o : List PixEntry, Answered s.script.rasters [o] ∧ t.line.obuf = fitRow s.cfg o ∧
      (RowProper s.cfg o → t.line.obuf = o) := by
  obtain ⟨o, ho, hrow⟩ := h.obuf
  rw [hqueue] at ho
  rw [hcfg] at hrow
  exact ⟨o, ho, hrow, fun hproper => hrow.trans (fitRow_of_proper hproper)⟩

/-- Settles O44: the parts of `enterActive` in order, by the visibility of the line and the state of the overlay. -/
theorem enteringActiveLatchesThePicture : Obligations.EnteringActiveLatchesThePicture := by
  unfold Obligations.EnteringActiveLatchesThePicture
  intro s
  dsimp only
  rw [← visible_iff]
  obtain ⟨hrc, hrcd⟩ := enterActive_latched s
  have hline := enterActive_line s
  refine ⟨hrc, by rw [hrcd], by rw [hrcd], by rw [hline], by rw [hline]; rfl,
    fun hhidden => enterActive_of_hidden (eq_false_of_ne_true hhidden), fun hshown => ?rendered,
    fun hshown hen => ?disabled, fun hshown hen hblocks => ?noBlock, fun hshown hen hblocks => ?block, ?frame⟩
  case rendered =>
    obtain ⟨r, hr, hrows⟩ := (rendered_latch hshown).bgrows
    rw [hline]
    dsimp only
    rw [hrows]
    exact ⟨r, hr, rfl, fitRow_of_proper, fitRow_of_proper, fitRow_of_proper, fitRow_of_proper⟩
  case disabled =>
    obtain ⟨hobuf, hovl, hcalls⟩ := enterActive_of_disabled hen
    exact ⟨hobuf, hovl, hcalls.trans (rendered_latch hshown).calls⟩
  case noBlock =>
    have hrendered := rendered_latch hshown
    have hfetched := enterActive_fetched hshown hen
    rw [if_pos hblocks] at hfetched
    refine ⟨hfetched.row (by simp) hrendered.rasters, hfetched.ovl.trans (by simp), ?_⟩
    rw [hfetched.calls, hrendered.calls, bgStep_rc, bgStep_pic]
    rfl
  case block =>
    have hrendered := rendered_latch hshown
    have hfetched := enterActive_fetched hshown hen
    rw [if_neg hblocks] at hfetched
    obtain ⟨w, hw, hovl, hcalls, hrasters⟩ := overlayBlock_spec (bgStep (latch s))
    refine ⟨hfetched.row (by simp) (hrasters.trans hrendered.rasters), ?_, w, hrendered.blocks ▸ hw, ?_⟩
    · rw [hfetched.calls, hcalls, hrendered.calls, overlayBlock_rc, overlayBlock_pic, bgStep_rc, bgStep_pic,
        bgStep_kctl, bgStep_ovl]
      rfl
    · rw [hfetched.ovl, hovl, bgStep_ovl]
      rfl
  case frame => simp

end Sys2Proof.Machine
end

section
/-! The resolved ranks: the order of the layers, and the rank of an enabled layer as its place in that order
(44_compositor.md R442 to R444). -/

namespace Sys2Proof.Machine

/-! ## The order of the layers -/

theorem mem_layers (l : Layer) : l ∈ layers := by
  cases l <;> decide

theorem nodup_layers : layers.Nodup := by
  decide

theorem layers_getElem?_layerIndex (l : Layer) : layers[layerIndex l]? = some l := by
  cases l <;> rfl

theorem layerIndex_injective : Function.Injective layerIndex := fun l m h =>
  Option.some.inj (by rw [← layers_getElem?_layerIndex l, h, layers_getElem?_layerIndex m])

section
variable {p : PicRegs} {l m n : Layer}

theorem before_iff :
    before p m l = true ↔
      (rawPriority p m).toNat < (rawPriority p l).toNat ∨
        ((rawPriority p m).toNat = (rawPriority p l).toNat ∧ layerIndex m < layerIndex l) := by
  simp [before]

theorem before_self (p : PicRegs) (l : Layer) : before p l l = false := by
  simp [before]

theorem before_trans (hlm : before p l m = true) (hmn : before p m n = true) : before p l n = true := by
  rw [before_iff] at *
  omega

/-- Two layers never tie: the index decides between equal raw priorities. -/
theorem before_or_before_of_ne (h : l ≠ m) : before p l m = true ∨ before p m l = true := by
  have hindex : layerIndex l ≠ layerIndex m := fun e => h (layerIndex_injective e)
  rw [before_iff, before_iff]
  omega

end

/-! ## The rank of a layer -/

theorem rank_resolveRanks (p : PicRegs) : rank (resolveRanks p) = rankOf p := by
  funext l
  cases l <;> rfl

/-- Counting by a weaker predicate counts more, if some element tells the two apart. -/
theorem countP_lt_countP_of_mem {α : Type} {q r : α → Bool} {xs : List α} {a : α} (himp : ∀ x, q x = true → r x = true)
    (ha : a ∈ xs) (hq : q a = false) (hr : r a = true) : xs.countP q < xs.countP r := by
  obtain ⟨front, back, rfl⟩ := List.append_of_mem ha
  have hfront : front.countP q ≤ front.countP r := List.countP_mono_left fun x _ => himp x
  have hback : back.countP q ≤ back.countP r := List.countP_mono_left fun x _ => himp x
  simp only [List.countP_append, List.countP_cons, hq, hr, Bool.false_eq_true, if_false, if_true]
  omega

section
variable {p : PicRegs} {l m : Layer}

theorem rankOf_of_disabled (h : enabled p l = false) : rankOf p l = 0 := by
  simp [rankOf, h]

theorem rankOf_of_enabled (h : enabled p l = true) :
    rankOf p l = 1 + layers.countP fun m => enabled p m && before p m l := by
  simp [rankOf, h]

/-- What is before `l` is also before `m`, and `l` itself is before `m` only. -/
theorem rankOf_lt_rankOf (hl : enabled p l = true) (hm : enabled p m = true) (hlm : before p l m = true) :
    rankOf p l < rankOf p m := by
  rw [rankOf_of_enabled hl, rankOf_of_enabled hm]
  have himp : ∀ x, (enabled p x && before p x l) = true → (enabled p x && before p x m) = true := by
    intro x hx
    obtain ⟨hen, hxl⟩ := Bool.and_eq_true_iff.mp hx
    exact Bool.and_eq_true_iff.mpr ⟨hen, before_trans hxl hlm⟩
  have := countP_lt_countP_of_mem himp (mem_layers l) (by simp [before_self]) (by simp [hl, hlm])
  omega

/-- An enabled layer is not before itself, so at most `k - 1` enabled layers are. -/
theorem rankOf_le_enabledCount (hl : enabled p l = true) : rankOf p l ≤ layers.countP (enabled p) := by
  have himp : ∀ x, (enabled p x && before p x l) = true → enabled p x = true :=
    fun x hx => (Bool.and_eq_true_iff.mp hx).1
  have := countP_lt_countP_of_mem himp (mem_layers l) (by simp [before_self]) hl
  rw [rankOf_of_enabled hl]
  omega

theorem rankOf_injOn_enabled (hl : enabled p l = true) (hm : enabled p m = true) (h : rankOf p l = rankOf p m) :
    l = m := by
  by_contra hne
  rcases before_or_before_of_ne (p := p) hne with hlm | hml
  · exact absurd h (rankOf_lt_rankOf hl hm hlm).ne
  · exact absurd h (rankOf_lt_rankOf hm hl hml).ne'

end

/-- Distinct ranks between 1 and k, k of them: all of 1..k. -/
theorem ranks_perm (p : PicRegs) :
    List.Perm ((layers.filter (enabled p)).map (rankOf p))
      ((List.range (layers.countP (enabled p))).map (· + 1)) := by
  have hnodup : ((layers.filter (enabled p)).map (rankOf p)).Nodup :=
    (nodup_layers.filter _).map_on fun l hl m hm =>
      rankOf_injOn_enabled (List.of_mem_filter hl) (List.of_mem_filter hm)
  have hsub : (layers.filter (enabled p)).map (rankOf p) ⊆ (List.range (layers.countP (enabled p))).map (· + 1) := by
    intro r hr
    obtain ⟨l, hl, rfl⟩ := List.mem_map.mp hr
    have hen : enabled p l = true := List.of_mem_filter hl
    have hle := rankOf_le_enabledCount hen
    have hpos := rankOf_of_enabled hen
    exact List.mem_map.mpr ⟨rankOf p l - 1, List.mem_range.mpr (by omega), by omega⟩
  refine (List.subperm_of_subset hnodup hsub).perm_of_length_le ?_
  simp [List.countP_eq_length_filter]

/-- Settles O56: the rank of an enabled layer is its place in a strict total order. -/
theorem ranksAreDenseAndOrdered : Obligations.RanksAreDenseAndOrdered := by
  unfold Obligations.RanksAreDenseAndOrdered
  intro p
  rw [rank_resolveRanks]
  exact ⟨fun _ => rankOf_of_disabled, ranks_perm p, fun _ _ hl hm h => rankOf_lt_rankOf hl hm (before_iff.mpr h)⟩

end Sys2Proof.Machine
end

section
/-! The priority table, by what its sorted list of slots is: an ordered permutation of the three slots
(44_compositor.md R448, R449). -/

namespace Sys2Proof.Machine

/-! ## The sorted slots -/

/-- Slot `x` may stand before slot `y` in the sorted list. -/
def sortsBefore (rk : Slot → Nat) (x y : Slot) : Prop := sortKey (rk x) ≤ sortKey (rk y)

section
variable (rk : Slot → Nat)

theorem insertSlot_perm (x : Slot) (ys : List Slot) : (insertSlot rk x ys).Perm (x :: ys) := by
  induction ys with
  | nil => exact .refl _
  | cons y ys ih =>
    rw [insertSlot]
    split
    · exact .refl _
    · exact (ih.cons y).trans (.swap x y ys)

/-- Inserting keeps a sorted list sorted. -/
theorem insertSlot_sorted (x : Slot) {ys : List Slot} (h : ys.Pairwise (sortsBefore rk)) :
    (insertSlot rk x ys).Pairwise (sortsBefore rk) := by
  induction ys with
  | nil => exact List.pairwise_singleton _ _
  | cons y ys ih =>
    obtain ⟨hy, hys⟩ := List.pairwise_cons.mp h
    rw [insertSlot]
    split
    next hxy => exact h.cons (List.forall_mem_cons.mpr ⟨hxy, fun z hz => hxy.trans (hy z hz)⟩)
    next hxy =>
      refine (ih hys).cons fun z hz => ?_
      rcases List.mem_cons.mp ((insertSlot_perm rk x ys).mem_iff.mp hz) with rfl | hz
      · exact (Nat.lt_of_not_le hxy).le
      · exact hy z hz

theorem sortedSlots_perm : (sortedSlots rk).Perm [.t, .b, .o] :=
  (insertSlot_perm rk .t _).trans (((insertSlot_perm rk .b _).trans ((insertSlot_perm rk .o _).cons .b)).cons .t)

theorem sortedSlots_sorted : (sortedSlots rk).Pairwise (sortsBefore rk) :=
  insertSlot_sorted rk .t (insertSlot_sorted rk .b (insertSlot_sorted rk .o .nil))

end

/-- The slots sorted by key are `f`, `m`, `h`. -/
structure SortedAs (rk : Slot → Nat) (f m h : Slot) : Prop where
  list : sortedSlots rk = [f, m, h]
  nodup : [f, m, h].Nodup
  mem : ∀ x, x ∈ [f, m, h]
  first_le : sortsBefore rk f m
  mid_le : sortsBefore rk m h

theorem exists_sortedAs (rk : Slot → Nat) : ∃ f m h, SortedAs rk f m h := by
  have hperm := sortedSlots_perm rk
  have hsorted := sortedSlots_sorted rk
  obtain ⟨f, m, h, hlist⟩ := List.length_eq_three.mp hperm.length_eq
  rw [hlist] at hperm hsorted
  obtain ⟨hf, hrest⟩ := List.pairwise_cons.mp hsorted
  exact ⟨f, m, h, {
    list := hlist
    nodup := hperm.nodup_iff.mpr (by decide)
    mem := fun x => hperm.mem_iff.mpr (by cases x <;> decide)
    first_le := hf m (by simp)
    mid_le := List.pairwise_pair.mp hrest }⟩

theorem SortedAs.forall_iff {rk : Slot → Nat} {f m h : Slot} (hs : SortedAs rk f m h) {P : Slot → Prop} :
    (∀ x, P x) ↔ P f ∧ P m ∧ P h := by
  refine ⟨fun hP => ⟨hP f, hP m, hP h⟩, fun ⟨hf, hm, hh⟩ x => ?_⟩
  have hx := hs.mem x
  simp only [List.mem_cons, List.not_mem_nil, or_false] at hx
  rcases hx with rfl | rfl | rfl
  · exact hf
  · exact hm
  · exact hh

/-- Zero ranks sort last, the others by value; the table's domain ends below the key of 0. -/
theorem sortKey_le_iff {r q : Nat} (hr : r ≤ 8) (hq : q ≤ 8) : sortKey r ≤ sortKey q ↔ q = 0 ∨ r ≠ 0 ∧ r ≤ q := by
  unfold sortKey
  split <;> split <;> omega

/-! ## The last ranked slot -/

/-- The last of the sorted slots with a non-zero rank. -/
def lastRanked (rk : Slot → Nat) (f m h : Slot) : Option Slot :=
  if rk h ≠ 0 then some h else if rk m ≠ 0 then some m else if rk f ≠ 0 then some f else none

section
variable {rk : Slot → Nat} {f m h x : Slot}

theorem lastRanked_isSome_iff (hs : SortedAs rk f m h) : (lastRanked rk f m h).isSome ↔ ¬∀ x, rk x = 0 := by
  rw [hs.forall_iff, lastRanked]
  (repeat' split) <;> simp_all

theorem ne_zero_of_lastRanked (hx : lastRanked rk f m h = some x) : rk x ≠ 0 := by
  unfold lastRanked at hx
  (repeat' split at hx) <;> cases hx <;> assumption

theorem le_of_lastRanked (hs : SortedAs rk f m h) (hdom : ∀ x, rk x ≤ 8) (hx : lastRanked rk f m h = some x)
    (y : Slot) : rk y ≤ rk x := by
  have hfm := (sortKey_le_iff (hdom f) (hdom m)).mp hs.first_le
  have hmh := (sortKey_le_iff (hdom m) (hdom h)).mp hs.mid_le
  revert y
  rw [hs.forall_iff]
  unfold lastRanked at hx
  (repeat' split at hx) <;> cases hx <;> omega

end

/-! ## The table -/

section
variable {rT rB rO : Nat} {f m h : Slot}

/-- The three roles read off the sorted slots. -/
theorem priorityTable_of_sortedAs (hs : SortedAs (slotRank rT rB rO) f m h) :
    priorityTable rT rB rO =
      { fore := f
        mid :=
          if slotRank rT rB rO f ≠ 0 ∧ slotRank rT rB rO m ≠ 0 ∧ slotRank rT rB rO h ≠ 0 then some m else none
        hind := lastRanked (slotRank rT rB rO) f m h } := by
  simp only [priorityTable, hs.list, lastRanked]
  generalize slotRank rT rB rO = rk
  by_cases hf : rk f = 0 <;> by_cases hm : rk m = 0 <;> by_cases hh : rk h = 0 <;> simp [hf, hm, hh]

theorem slotRank_forall_iff {P : Nat → Prop} : (∀ x, P (slotRank rT rB rO x)) ↔ P rT ∧ P rB ∧ P rO :=
  ⟨fun hP => ⟨hP .t, hP .b, hP .o⟩, fun ⟨ht, hb, ho⟩ x => by cases x <;> assumption⟩

/-- A slot that alone has a rank is HIND; this needs no bound on the rank. -/
theorem priorityTable_hind_of_lone {sl : Slot} (hsl : slotRank rT rB rO sl ≠ 0)
    (hothers : ∀ x, x ≠ sl → slotRank rT rB rO x = 0) : (priorityTable rT rB rO).hind = some sl := by
  obtain ⟨f, m, h, hs⟩ := exists_sortedAs (slotRank rT rB rO)
  rw [priorityTable_of_sortedAs hs]
  obtain ⟨x, hx⟩ := Option.isSome_iff_exists.mp ((lastRanked_isSome_iff hs).mpr fun hall => hsl (hall sl))
  have hxsl : x = sl := by_contra fun hne => ne_zero_of_lastRanked hx (hothers x hne)
  exact hxsl ▸ hx

/-- FORE is a slot that sorts first. -/
theorem priorityTable_fore_le (hdom : ∀ x, slotRank rT rB rO x ≤ 8) (x : Slot) :
    slotRank rT rB rO x = 0 ∨
      slotRank rT rB rO (priorityTable rT rB rO).fore ≠ 0 ∧
        slotRank rT rB rO (priorityTable rT rB rO).fore ≤ slotRank rT rB rO x := by
  obtain ⟨f, m, h, hs⟩ := exists_sortedAs (slotRank rT rB rO)
  have hfm := (sortKey_le_iff (hdom f) (hdom m)).mp hs.first_le
  have hmh := (sortKey_le_iff (hdom m) (hdom h)).mp hs.mid_le
  rw [priorityTable_of_sortedAs hs]
  revert x
  rw [hs.forall_iff]
  dsimp only
  omega

theorem priorityTable_hind_isSome_iff :
    (priorityTable rT rB rO).hind.isSome ↔ ¬(rT = 0 ∧ rB = 0 ∧ rO = 0) := by
  obtain ⟨f, m, h, hs⟩ := exists_sortedAs (slotRank rT rB rO)
  rw [priorityTable_of_sortedAs hs, ← slotRank_forall_iff (P := (· = 0))]
  exact lastRanked_isSome_iff hs

theorem priorityTable_hind_greatest (hdom : ∀ x, slotRank rT rB rO x ≤ 8) {x : Slot}
    (hx : (priorityTable rT rB rO).hind = some x) :
    slotRank rT rB rO x ≠ 0 ∧ ∀ y, slotRank rT rB rO y ≤ slotRank rT rB rO x := by
  obtain ⟨f, m, h, hs⟩ := exists_sortedAs (slotRank rT rB rO)
  rw [priorityTable_of_sortedAs hs] at hx
  exact ⟨ne_zero_of_lastRanked hx, le_of_lastRanked hs hdom hx⟩

theorem priorityTable_mid_isSome_iff :
    (priorityTable rT rB rO).mid.isSome ↔ rT ≠ 0 ∧ rB ≠ 0 ∧ rO ≠ 0 := by
  obtain ⟨f, m, h, hs⟩ := exists_sortedAs (slotRank rT rB rO)
  rw [← slotRank_forall_iff (P := (· ≠ 0)), hs.forall_iff, priorityTable_of_sortedAs hs]
  simp

/-- MID is given only when all three slots have a rank, and then it is the middle one. -/
theorem priorityTable_mid_ne {x : Slot} (hx : (priorityTable rT rB rO).mid = some x) :
    x ≠ (priorityTable rT rB rO).fore ∧ (priorityTable rT rB rO).hind ≠ some x := by
  obtain ⟨f, m, h, hs⟩ := exists_sortedAs (slotRank rT rB rO)
  rw [priorityTable_of_sortedAs hs] at hx ⊢
  obtain ⟨⟨_, _, hh⟩, hmx⟩ := Option.ite_none_right_eq_some.mp hx
  obtain rfl := Option.some.inj hmx
  have hnodup := hs.nodup
  simp only [List.nodup_cons, List.mem_cons, List.not_mem_nil, or_false, not_or] at hnodup
  obtain ⟨⟨hfm, _⟩, hmh, _⟩ := hnodup
  have hhind : lastRanked (slotRank rT rB rO) f m h = some h := if_pos hh
  exact ⟨Ne.symm hfm, fun he => hmh (Option.some.inj (hhind.symm.trans he)).symm⟩

end

/-- Settles O57, from the three slots in sorted order. -/
theorem priorityTableProperties : Obligations.PriorityTableProperties := by
  unfold Obligations.PriorityTableProperties
  intro rT rB rO hT hB hO
  have hdom : ∀ x, slotRank rT rB rO x ≤ 8 := (slotRank_forall_iff (P := (· ≤ 8))).mpr ⟨hT, hB, hO⟩
  have hfore := priorityTable_fore_le hdom
  refine ⟨priorityTable_hind_isSome_iff, fun hzero => ?_, fun x hx => ?_,
    fun _ => priorityTable_hind_greatest hdom, priorityTable_mid_isSome_iff, fun _ => priorityTable_mid_ne⟩
  · exact (slotRank_forall_iff (P := (· = 0))).mp fun x => (hfore x).resolve_right fun h => h.1 hzero
  · exact ((hfore x).resolve_left hx).2

end Sys2Proof.Machine
end

section
/-! One column of the compositor: the candidates of ranked layers, drawn over the fallback (44_compositor.md R445 to
R447, R453, R460, R461). -/

namespace Sys2Proof.Machine

/-! ## Candidates (44_compositor.md R445 to R447) -/

/-- The slot in which a layer competes. -/
def slotOf : Layer → Slot
  | .bg0 => .b
  | .bg1 => .b
  | .bg2 => .b
  | .bg3 => .b
  | .ovl => .o
  | .vdcBg => .t
  | .vdcSpr => .t

/-- A candidate of slot `sl` stands for a ranked layer of that slot, with the layer's rank. -/
structure FromRankedLayer (r : Ranks) (sl : Slot) (c : Candidate) : Prop where
  slot : slotOf c.layer = sl
  rank_eq : c.rank = rank r c.layer
  ranked : rank r c.layer ≠ 0

section
variable {rc : Latched} {ln : LineBufs} {x : Nat} {l : Layer} {c : Candidate}

theorem bgEntry_eq_some {e : PixEntry} (h : bgEntry rc l e = some c) :
    c.layer = l ∧ c.rank = rank rc.rank l ∧ rank rc.rank l ≠ 0 := by
  rw [bgEntry, Option.ite_none_left_eq_some] at h
  obtain ⟨hranked, hc⟩ := h
  obtain ⟨_, _, rfl⟩ := Option.map_eq_some_iff.mp hc
  exact ⟨rfl, rfl, hranked⟩

theorem frontmost_eq_some {a b : Option Candidate} (h : frontmost a b = some c) : a = some c ∨ b = some c := by
  unfold frontmost at h
  (repeat' split at h) <;> simp_all

theorem fromRankedLayer_of_bgEntry {e : PixEntry} (hl : slotOf l = .b) (h : bgEntry rc l e = some c) :
    FromRankedLayer rc.rank .b c := by
  obtain ⟨rfl, hrank, hranked⟩ := bgEntry_eq_some h
  exact ⟨hl, hrank, hranked⟩

theorem fromRankedLayer_of_bgCandidate (h : bgCandidate rc ln.bgrows x = some c) : FromRankedLayer rc.rank .b c := by
  rcases frontmost_eq_some h with h | h <;> rcases frontmost_eq_some h with h | h <;>
    exact fromRankedLayer_of_bgEntry rfl h

theorem fromRankedLayer_of_tileCandidate (h : tileCandidate rc ln.tbuf x = some c) :
    FromRankedLayer rc.rank .t c := by
  unfold tileCandidate at h
  split at h
  next => cases h
  next k _ _ =>
    obtain ⟨hranked, hc⟩ := Option.ite_none_left_eq_some.mp h
    obtain rfl := Option.some.inj hc
    exact ⟨by cases k <;> rfl, rfl, hranked⟩

theorem fromRankedLayer_of_ovlCandidate (h : ovlCandidate rc ln.obuf x = some c) :
    FromRankedLayer rc.rank .o c := by
  obtain ⟨hranked, hc⟩ := Option.ite_none_left_eq_some.mp h
  split at hc
  next => cases hc
  next =>
    obtain ⟨_, hc⟩ := Option.ite_none_left_eq_some.mp hc
    obtain rfl := Option.some.inj hc
    exact ⟨rfl, rfl, hranked⟩

theorem fromRankedLayer_of_candidateOf {sl : Slot} (h : candidateOf rc ln x sl = some c) :
    FromRankedLayer rc.rank sl c := by
  cases sl with
  | t => exact fromRankedLayer_of_tileCandidate h
  | b => exact fromRankedLayer_of_bgCandidate h
  | o => exact fromRankedLayer_of_ovlCandidate h

end

/-! ## The candidate of a layer alone -/

section
variable {rc : Latched} {ln : LineBufs} {x : Nat} {l : Layer}

/-- The colour a background layer offers in a column. -/
theorem bgEntry_colour {e : PixEntry} (hl : rank rc.rank l ≠ 0) :
    (bgEntry rc l e).map Candidate.colour = entryColour rc l e := by
  rw [bgEntry, if_neg hl, Option.map_map]
  exact congrFun Option.map_id _

theorem bgEntry_of_unranked {e : PixEntry} (hl : rank rc.rank l = 0) : bgEntry rc l e = none :=
  if_pos hl

@[simp] theorem frontmost_none_left (b : Option Candidate) : frontmost none b = b := rfl

@[simp] theorem frontmost_none_right (a : Option Candidate) : frontmost a none = a := by
  cases a <;> rfl

/-- With no other layer ranked, the slot's candidate is the layer's own colour. -/
theorem candidateOf_slotOf_colour (hl : rank rc.rank l ≠ 0) (hothers : ∀ m, m ≠ l → rank rc.rank m = 0) :
    (candidateOf rc ln x (slotOf l)).map Candidate.colour = layerColour rc ln x l := by
  have hnone : ∀ m e, m ≠ l → bgEntry rc m e = none := fun m e hm => bgEntry_of_unranked (hothers m hm)
  cases l with
  | bg0 | bg1 | bg2 | bg3 =>
    simp [slotOf, candidateOf, bgCandidate, layerColour, hnone, bgEntry_colour hl]
  | ovl =>
    rw [slotOf, candidateOf, ovlCandidate, if_neg hl, layerColour]
    cases entryColour rc .ovl (pixAt ln.obuf x) with
    | none => rfl
    | some c => cases hkey : keyed rc.pic c <;> simp [hkey, Option.filter]
  | vdcBg | vdcSpr =>
    simp only [slotOf, candidateOf, tileCandidate, layerColour]
    cases ln.tbuf.getD x .transparent with
    | transparent => rfl
    | tile k v => cases k <;> simp [tileLayer, hl, hothers]

/-- No layer ranked in the slot, no candidate. -/
theorem candidateOf_eq_none {sl : Slot} (h : ∀ l, slotOf l = sl → rank rc.rank l = 0) :
    candidateOf rc ln x sl = none :=
  Option.eq_none_iff_forall_ne_some.mpr fun c hc =>
    have hc := fromRankedLayer_of_candidateOf hc
    hc.ranked (h c.layer hc.slot)

end

/-! ## Drawing (44_compositor.md R455, R460) -/

section
variable {p : PicRegs} {acc : Yuv24} {cand : Slot → Option Candidate} {sl : Slot}

theorem cellophane_of_off (hoff : p.celctl.getLsbD 15 = false) (c : Candidate) : cellophane p c = none :=
  if_neg fun h => Bool.noConfusion (hoff.symm.trans h.1)

/-- Without cellophane a candidate is copied, and no candidate draws nothing. -/
theorem drawOne_of_cellophane_off (hoff : p.celctl.getLsbD 15 = false) (c : Option Candidate) :
    drawOne p acc c = (c.map Candidate.colour).getD acc := by
  cases c with
  | none => rfl
  | some c => simp [drawOne, cellophane_of_off hoff]

theorem foldl_drawOne_of_none (order : List Slot) (h : ∀ y ∈ order, cand y = none) :
    order.foldl (fun a y => drawOne p a (cand y)) acc = acc := by
  induction order with
  | nil => rfl
  | cons y ys ih =>
    rw [List.foldl_cons, h y List.mem_cons_self]
    exact ih fun z hz => h z (List.mem_cons_of_mem _ hz)

/-- Of a single candidate the colour stays, wherever in the order it is drawn. -/
theorem foldl_drawOne_of_lone (hoff : p.celctl.getLsbD 15 = false) {c : Candidate} (hc : cand sl = some c)
    (hothers : ∀ y, y ≠ sl → cand y = none) {order : List Slot} (hmem : sl ∈ order) :
    order.foldl (fun a y => drawOne p a (cand y)) acc = c.colour := by
  induction order generalizing acc with
  | nil => cases hmem
  | cons y ys ih =>
    rw [List.foldl_cons]
    by_cases hys : sl ∈ ys
    · exact ih hys
    · obtain rfl : sl = y := (List.mem_cons.mp hmem).resolve_right hys
      rw [foldl_drawOne_of_none ys fun z hz => hothers z fun he => hys (he ▸ hz), hc, drawOne_of_cellophane_off hoff]
      rfl

end

theorem mem_drawOrder_of_hind {r : Roles} {sl : Slot} (h : r.hind = some sl) : sl ∈ drawOrder r := by
  simp [drawOrder, h]

/-! ## The composed column (44_compositor.md R460) -/

section
variable {cfg : Params} {rc : Latched} {ln : LineBufs} {x : Nat} {sl : Slot}

theorem composeColumn_of_none (h : ∀ y, candidateOf rc ln x y = none) : composeColumn cfg rc ln x = fallback cfg rc :=
  foldl_drawOne_of_none _ fun y _ => h y

theorem composeColumn_of_lone (hoff : rc.pic.celctl.getLsbD 15 = false)
    (hothers : ∀ y, y ≠ sl → candidateOf rc ln x y = none) :
    composeColumn cfg rc ln x = ((candidateOf rc ln x sl).map Candidate.colour).getD (fallback cfg rc) := by
  cases hc : candidateOf rc ln x sl with
  | none =>
    refine composeColumn_of_none fun y => ?_
    by_cases hy : y = sl
    · exact hy ▸ hc
    · exact hothers y hy
  | some c =>
    have hfrom := fromRankedLayer_of_candidateOf hc
    have hranks : ∀ y,
        slotRank (candidateRank (candidateOf rc ln x .t)) (candidateRank (candidateOf rc ln x .b))
          (candidateRank (candidateOf rc ln x .o)) y = candidateRank (candidateOf rc ln x y) := by
      intro y
      cases y <;> rfl
    have hhind := priorityTable_hind_of_lone (sl := sl) (by rw [hranks, hc]; exact hfrom.rank_eq.trans_ne hfrom.ranked)
      fun y hy => by rw [hranks, hothers y hy]; rfl
    exact foldl_drawOne_of_lone hoff hc hothers (mem_drawOrder_of_hind hhind)

/-! ## The fallback (44_compositor.md R453) -/

theorem fallback_of_ranked {l : Layer} (hl : rank rc.rank l ≠ 0) :
    fallback cfg rc = pcacheGet rc.pcache (pbase rc.pic .bg0) :=
  if_pos (List.any_eq_true.mpr ⟨l, mem_layers l, by simpa using hl⟩)

theorem fallback_of_unranked (h : ∀ l, rank rc.rank l = 0) : fallback cfg rc = cfg.neutral := by
  simp [fallback, h]

end

/-- Settles O58: at most one slot of a column has a candidate, and it is drawn over the fallback. -/
theorem aLoneLayerIsCopiedOverTheFallback : Obligations.ALoneLayerIsCopiedOverTheFallback := by
  unfold Obligations.ALoneLayerIsCopiedOverTheFallback
  refine ⟨fun cfg rc ln x l hl hothers hoff => ?lone, fun cfg rc ln hnone => ?empty⟩
  case lone =>
    have hslots : ∀ y, y ≠ slotOf l → candidateOf rc ln x y = none := fun y hy =>
      candidateOf_eq_none fun m hm => hothers m fun he => hy (he ▸ hm).symm
    rw [composeColumn_of_lone hoff hslots, candidateOf_slotOf_colour hl hothers, fallback_of_ranked hl]
    rfl
  case empty =>
    have hcolumn : ∀ x, composeColumn cfg rc ln x = cfg.neutral := fun x =>
      (composeColumn_of_none fun _ => candidateOf_eq_none fun l _ => hnone l).trans (fallback_of_unranked hnone)
    simp only [composeLine, hcolumn, List.map_const', List.length_range]
    rfl

end Sys2Proof.Machine
end

section
/-! The chroma key and the blend, channel by channel (44_compositor.md R452, R456, R458). -/

namespace Sys2Proof.Machine

/-! ## The channels of a colour (00_scope.md R19) -/

section
variable (y u v : Byte)

@[simp] theorem yOf_append : yOf (y ++ u ++ v) = y :=
  (BitVec.extractLsb'_append_eq_of_le (by decide)).trans BitVec.extractLsb'_append_eq_left

@[simp] theorem uOf_append : uOf (y ++ u ++ v) = u :=
  (BitVec.extractLsb'_append_eq_of_le (by decide)).trans BitVec.extractLsb'_append_eq_right

@[simp] theorem vOf_append : vOf (y ++ u ++ v) = v :=
  BitVec.extractLsb'_append_eq_right

end

/-- A colour is its three channels. -/
theorem append_channels (c : Yuv24) : yOf c ++ uOf c ++ vOf c = c := by
  have hyu : yOf c ++ uOf c = c.extractLsb' 8 16 := BitVec.extractLsb'_append_extractLsb'_eq_extractLsb' rfl
  rw [hyu]
  exact (BitVec.extractLsb'_append_extractLsb'_eq_extractLsb' rfl).trans BitVec.extractLsb'_eq_self

/-! ## KEYED (44_compositor.md R452) -/

/-- Both ends of a key register's range are included (40_controller_registers.md R216). -/
theorem inKey_iff {k : Word} {x : Byte} :
    inKey k x = true ↔ (lowByte k).toNat ≤ x.toNat ∧ x.toNat ≤ (highByte k).toNat := by
  simp [inKey]

theorem keyed_iff {p : PicRegs} {c : Yuv24} :
    keyed p c = true ↔
      p.pmode.getLsbD 3 = false ∧ inKey p.keyy (yOf c) = true ∧ inKey p.keyu (uOf c) = true ∧
        inKey p.keyv (vOf c) = true := by
  simp [keyed, dotClock, and_assoc]

/-- The range of a register at 0 holds the channel value 0 alone. -/
theorem inKey_zero_iff {x : Byte} : inKey 0 x = true ↔ x = 0 := by
  rw [inKey_iff, ← BitVec.toNat_inj]
  simp [lowByte, highByte]

theorem channels_eq_zero_iff {c : Yuv24} : yOf c = 0 ∧ uOf c = 0 ∧ vOf c = 0 ↔ c = 0 := by
  constructor
  · rintro ⟨hy, hu, hv⟩
    rw [← append_channels c, hy, hu, hv]
    rfl
  · rintro rfl
    exact ⟨rfl, rfl, rfl⟩

theorem keyed_zero_iff {c : Yuv24} : keyed PicRegs.zero c = true ↔ c = 0 := by
  rw [keyed_iff, ← channels_eq_zero_iff]
  exact (and_iff_right rfl).trans (and_congr inKey_zero_iff (and_congr inKey_zero_iff inKey_zero_iff))

/-- With MIN > MAX no value is in the range. -/
theorem inKey_of_empty {k : Word} (h : (highByte k).toNat < (lowByte k).toNat) (x : Byte) : inKey k x = false := by
  rw [Bool.eq_false_iff, ne_eq, inKey_iff]
  omega

/-- Settles O59, channel by channel. -/
theorem chromaKeyTestsTheThreeChannels : Obligations.ChromaKeyTestsTheThreeChannels := by
  unfold Obligations.ChromaKeyTestsTheThreeChannels
  intro p c
  refine ⟨?_, keyed_zero_iff, fun hempty => ?_⟩
  · rw [keyed_iff, inKey_iff, inKey_iff, inKey_iff, and_assoc, and_assoc]
    rfl
  · rw [Bool.eq_false_iff, ne_eq, keyed_iff, inKey_of_empty hempty]
    simp

/-! ## The weighted channels (44_compositor.md R458) -/

/-- Clamped to 0..255 a value fits a byte. -/
theorem toNat_clampByte (x : Int) : ((clampByte x).toNat : Int) = min (max x 0) 255 := by
  rw [clampByte, BitVec.toNat_ofInt]
  omega

@[simp] theorem clampByte_toNat (b : Byte) : clampByte b.toNat = b := by
  apply BitVec.eq_of_toNat_eq
  have := toNat_clampByte b.toNat
  omega

@[simp] theorem mulY_zero (x : Byte) : mulY 0#4 x = 0 := by
  simp [mulY]

@[simp] theorem mulUV_zero (x : Byte) : mulUV 0#4 x = 0 := by
  simp [mulUV]

/-- Coefficient 8 is unity weight. -/
@[simp] theorem mulY_eight (x : Byte) : mulY 8#4 x = x.toNat := by
  simp [mulY]

@[simp] theorem mulUV_eight (x : Byte) : mulUV 8#4 x = x.toNat - 128 := by
  simp [mulUV]

/-! ## BLEND (44_compositor.md R456) -/

section
variable (a b : BitVec 12) (p q : Yuv24)

theorem yOf_blend : yOf (blend a b p q) = clampByte (mulY (coefY a) (yOf p) + mulY (coefY b) (yOf q)) :=
  yOf_append ..

theorem uOf_blend :
    uOf (blend a b p q) = clampByte (128 + mulUV (coefU a) (uOf p) + mulUV (coefU b) (uOf q)) :=
  uOf_append ..

theorem vOf_blend :
    vOf (blend a b p q) = clampByte (128 + mulUV (coefV a) (vOf p) + mulUV (coefV b) (vOf q)) :=
  vOf_append ..

/-- A weighted Y sum is never negative, so it is clamped at 255 only. -/
theorem yOf_blend_toNat :
    (yOf (blend a b p q)).toNat =
      min ((yOf p).toNat * (coefY a).toNat / 8 + (yOf q).toNat * (coefY b).toNat / 8) 255 := by
  have h := toNat_clampByte (mulY (coefY a) (yOf p) + mulY (coefY b) (yOf q))
  rw [yOf_blend]
  simp only [mulY] at h ⊢
  omega

theorem uOf_blend_toNat :
    ((uOf (blend a b p q)).toNat : Int) =
      min (max (128 + mulUV (coefU a) (uOf p) + mulUV (coefU b) (uOf q)) 0) 255 := by
  rw [uOf_blend, toNat_clampByte]

theorem vOf_blend_toNat :
    ((vOf (blend a b p q)).toNat : Int) =
      min (max (128 + mulUV (coefV a) (vOf p) + mulUV (coefV b) (vOf q)) 0) 255 := by
  rw [vOf_blend, toNat_clampByte]

theorem blend_eight_zero : blend 0x888 0 p q = p := by
  rw [← append_channels (blend _ _ _ _), yOf_blend, uOf_blend, vOf_blend]
  simp [coefY, coefU, coefV, append_channels]

theorem blend_zero_eight : blend 0 0x888 p q = q := by
  rw [← append_channels (blend _ _ _ _), yOf_blend, uOf_blend, vOf_blend]
  simp [coefY, coefU, coefV, append_channels]

theorem blend_zero_zero : blend 0 0 p q = 0x008080 := by
  have hgrey : clampByte 0 ++ clampByte 128 ++ clampByte 128 = 0x008080#24 := by decide
  simpa [blend, coefY, coefU, coefV] using hgrey

end

/-- Settles O60, channel by channel. -/
theorem blendWeighsTheTwoColours : Obligations.BlendWeighsTheTwoColours := by
  unfold Obligations.BlendWeighsTheTwoColours
  intro a b p q
  exact ⟨yOf_blend_toNat a b p q, (Int.sub_add_cancel ..).trans (uOf_blend_toNat a b p q),
    (Int.sub_add_cancel ..).trans (vOf_blend_toNat a b p q), blend_eight_zero p q, blend_zero_eight p q,
    blend_zero_zero p q⟩

end Sys2Proof.Machine
end

section
/-! The DMA/SCSI handshake (45_dma_scsi_handshake.md R490 to R497): the phase check, the packing and counting of one byte,
and one tick over a queue of bus answers. -/

namespace Sys2Proof.Machine

/-! ## The phase check (45_dma_scsi_handshake.md R492) -/

/-- With a transfer active and REQ asserted the three phase lines are asked for, and a phase other than SPHASE stops
the transfer. -/
theorem Asked.phaseCheck {s e : State} {ls : List Line} {bs : List Bool} (h : Asked s ls bs e)
    (hactive : (s.scsi.recvAct || s.scsi.sendAct) = true) :
    ∃ (msg cd io : Bool) (e' : State), Asked s (.io :: .cd :: .msg :: ls) (bs ++ [msg] ++ [cd] ++ [io]) e' ∧
      phaseCheck true e =
        if phaseMatches s.scsi.sphase msg cd io then e'
        else stopTransfer (e'.setPend { s.pend with phase := true }) := by
  have hscsi : e.scsi = s.scsi := by rw [h.state]; rfl
  have hpend : e.pend = s.pend := by rw [h.state]; rfl
  obtain ⟨msg, hm, hmsg⟩ := h.busGet .msg
  obtain ⟨cd, hc, hcd⟩ := hm.busGet .cd
  obtain ⟨io, hi, hio⟩ := hc.busGet .io
  refine ⟨msg, cd, io, _, hi, ?_⟩
  rw [Machine.phaseCheck, hscsi, hactive]
  dsimp only
  rw [hmsg, hcd, hio]
  simp [hscsi, hpend]

/-- Without REQ the check asks for nothing. -/
theorem phaseCheck_of_not_req (s : State) : phaseCheck false s = s := by
  simp [phaseCheck]

/-- Without a transfer neither. -/
theorem phaseCheck_of_idle {s : State} (hrecv : s.scsi.recvAct = false) (hsend : s.scsi.sendAct = false) (req : Bool) :
    phaseCheck req s = s := by
  simp [phaseCheck, hrecv, hsend]

theorem phaseMatches_iff (p : Byte) (msg cd io : Bool) :
    phaseMatches p msg cd io = true ↔ msg = p.getLsbD 2 ∧ cd = p.getLsbD 1 ∧ io = p.getLsbD 0 := by
  simp [phaseMatches, and_assoc]

/-- Settles O45: the lines asked for decide between the state after the questions and the stopped transfer. -/
theorem phaseMismatchStopsTheTransfer : Obligations.PhaseMismatchStopsTheTransfer := by
  unfold Obligations.PhaseMismatchStopsTheTransfer
  refine ⟨fun s hactive => ?active, fun s hrecv hsend req => phaseCheck_of_idle hrecv hsend req, phaseCheck_of_not_req⟩
  case active =>
    obtain ⟨msg, cd, io, e, hasked, hcheck⟩ := (Asked.refl s).phaseCheck hactive
    refine ⟨msg, cd, io, hasked.answered, by simp, ?calls, fun hhit => ?hit, fun hmiss => ?miss⟩
    case calls =>
      rw [hcheck, hasked.state]
      split <;> rfl
    case hit =>
      rw [hcheck, if_pos ((phaseMatches_iff ..).2 hhit), hasked.state]
      exact ⟨rfl, rfl, rfl⟩
    case miss =>
      rw [hcheck, if_neg (hmiss ∘ (phaseMatches_iff ..).1), hasked.state]
      exact ⟨rfl, rfl, rfl⟩

/-! ## Packing and counting one byte (45_dma_scsi_handshake.md R497) -/

section
variable (b : Byte) (s : State)

@[simp] theorem dmaPack_size : (dmaPack b s).dma.size = s.dma.size := by
  unfold dmaPack
  split <;> rfl

@[simp] theorem dmaPack_ff : (dmaPack b s).dma.ff = !s.dma.ff := by
  cases h : s.dma.ff <;> simp [dmaPack, dmaWord, h]

@[simp] theorem dmaPack_ctl : (dmaPack b s).dma.ctl = s.dma.ctl := (busAccess_dmaPack s b).dmaCtl

@[simp] theorem dmaCount_ctl : (dmaCount s).dma.ctl = s.dma.ctl := (busAccess_dmaCount s).dmaCtl

@[simp] theorem dmaCount_addr : (dmaCount s).dma.addr = s.dma.addr := by
  unfold dmaCount
  (repeat' split) <;> rfl

@[simp] theorem dmaCount_lo : (dmaCount s).dma.lo = s.dma.lo := by
  unfold dmaCount
  (repeat' split) <;> rfl

/-- What counting a byte depends on. -/
theorem dmaSize_cases : s.dma.size = 0 ∨ s.dma.size = 1 ∨ 1 < s.dma.size.toNat := by
  bv_omega

variable {s}

theorem dmaPack_of_low (h : s.dma.ff = false) : dmaPack b s = s.setDma { s.dma with lo := b, ff := true } :=
  if_neg (ne_true_of_eq_false h)

theorem dmaPack_of_high (h : s.dma.ff = true) : dmaPack b s = dmaWord b s := if_pos h

/-- DMA_SIZE 0 does not count. -/
theorem dmaCount_of_zero (h : s.dma.size = 0) : dmaCount s = s := if_pos h

theorem dmaCount_of_one (h : s.dma.size = 1) : dmaCount s = dmaFinish s := by
  rw [dmaCount, h, if_neg (by decide), if_pos rfl]

theorem dmaCount_of_more (h : 1 < s.dma.size.toNat) : dmaCount s = s.setDma { s.dma with size := s.dma.size - 1 } := by
  unfold dmaCount
  rw [if_neg, if_neg]
  all_goals
    intro hsize
    simp [hsize] at h

/-- The counter falls by one and does not wrap. -/
theorem toNat_sub_one {n : BitVec 24} (h : 1 < n.toNat) : (n - 1#24).toNat + 1 = n.toNat := by
  have hle : 1#24 ≤ n := BitVec.le_def.2 h.le
  rw [BitVec.toNat_sub_of_le hle]
  exact Nat.sub_add_cancel h.le

end

/-- Settles O46: the two branches of `dmaPack`, then the three of `dmaCount`. -/
theorem realDmaPacksAndCountsOneByte : Obligations.RealDmaPacksAndCountsOneByte := by
  unfold Obligations.RealDmaPacksAndCountsOneByte
  intro b s
  refine ⟨fun hff => ?low, fun hff => ?high, fun hsize => ?uncounted, fun hsize => ?last, fun hsize => ?counted, ?frame⟩
  case low => simp [dmaPack_of_low b hff]
  case high => simp [dmaPack_of_high b hff, dmaWord, bankDma]
  case uncounted => simp [dmaCount_of_zero (s := dmaPack b s) (by simpa using hsize), hsize]
  case last => simp [dmaCount_of_one (s := dmaPack b s) (by simpa using hsize), dmaFinish]
  case counted =>
    rw [dmaCount_of_more (s := dmaPack b s) (by simpa using hsize)]
    exact ⟨by simpa using toNat_sub_one hsize, by simp⟩
  case frame => simp

/-! ## One tick over queued answers (45_dma_scsi_handshake.md R490, R495) -/

/-- Answers all of which are queued are the head of the queue. -/
theorem Answered.eq_of_append {α : Type} {as rest bs : List α} (h : Answered (as ++ rest) bs)
    (hlength : bs.length = as.length) : bs = as := by
  rw [Answered, hlength, List.take_left] at h
  exact (h.eq_of_length hlength.symm).symm

/-- `s` after the lines `ls` (latest first) were asked for, with `rest` left of the queue of levels. -/
def asked (s : State) (ls : List Line) (rest : List Bool) : State :=
  (s.setCalls (ls.map .busGet ++ s.calls)).setScript { s.script with levels := rest }

section
variable (s : State) (ls : List Line) (rest : List Bool)

@[simp] theorem asked_scsi : (asked s ls rest).scsi = s.scsi := rfl
@[simp] theorem asked_dma : (asked s ls rest).dma = s.dma := rfl

end

/-- Lines that find their answers queued. -/
theorem Asked.eq_of_queued {s e : State} {ls : List Line} {bs as rest : List Bool} (h : Asked s ls bs e)
    (hqueue : s.script.levels = as ++ rest) (hlength : as.length = ls.length) : bs = as ∧ e = asked s ls rest := by
  have hanswered := h.answered
  rw [hqueue] at hanswered
  refine ⟨hanswered.eq_of_append (h.length.trans hlength.symm), ?_⟩
  rw [h.state, hqueue, ← hlength, List.drop_left]
  rfl

section
variable {s : State} {rest : List Bool}

/-- A tick that reads REQ released releases the block's own ACK and does nothing else: a queued ACK answer does not
matter (R491; log 5). -/
theorem handshakeTick_of_not_req {ack : Bool} (hlevels : s.script.levels = false :: ack :: rest) :
    handshakeTick s =
      if s.scsi.hsAck then setHsAck false (asked s [.ack, .req] rest) else asked s [.ack, .req] rest := by
  obtain ⟨req, hr, hreq⟩ := (Asked.refl s).busGet .req
  obtain ⟨level, ha, hack⟩ := hr.busGet .ack
  obtain ⟨hanswers, hstate⟩ := ha.eq_of_queued (as := [false, ack]) hlevels rfl
  obtain ⟨rfl, rfl⟩ : req = false ∧ level = ack := by simpa using hanswers
  unfold handshakeTick
  dsimp only
  rw [hreq.trans (if_neg (by decide)), hack.trans (if_pos rfl), hstate, phaseCheck_of_not_req, asked_scsi]
  cases h : s.scsi.hsAck <;> simp [ackOut, h]

/-- A tick that reads REQ asserted in the expected phase, with no ACK on the bus: RECV_ACT goes before SEND_ACT. -/
theorem handshakeTick_of_req (hactive : (s.scsi.recvAct || s.scsi.sendAct) = true) (hhs : s.scsi.hsAck = false)
    (hcmd : s.scsi.scmd.getLsbD 4 = false)
    (hlevels : s.script.levels =
      true :: false :: s.scsi.sphase.getLsbD 2 :: s.scsi.sphase.getLsbD 1 :: s.scsi.sphase.getLsbD 0 :: rest) :
    handshakeTick s =
      let e := asked s [.io, .cd, .msg, .ack, .req] rest
      if s.scsi.recvAct then receiveByte e else if s.scsi.drq then e else sendByte e := by
  obtain ⟨req, hr, hreq⟩ := (Asked.refl s).busGet .req
  obtain ⟨level, ha, hack⟩ := hr.busGet .ack
  obtain ⟨msg, cd, io, e, hasked, hcheck⟩ := ha.phaseCheck hactive
  obtain ⟨hanswers, rfl⟩ := hasked.eq_of_queued
    (as := [true, false, s.scsi.sphase.getLsbD 2, s.scsi.sphase.getLsbD 1, s.scsi.sphase.getLsbD 0]) hlevels rfl
  obtain ⟨rfl, rfl, hphase⟩ : req = true ∧ level = false ∧
      msg = s.scsi.sphase.getLsbD 2 ∧ cd = s.scsi.sphase.getLsbD 1 ∧ io = s.scsi.sphase.getLsbD 0 := by
    simpa using hanswers
  rw [if_pos ((phaseMatches_iff ..).2 hphase)] at hcheck
  unfold handshakeTick
  dsimp only
  have hfree : ackOut s.scsi = false := by rw [ackOut, hcmd, hhs]; rfl
  rw [hreq.trans (if_neg (by decide)), hcheck, hack.trans (if_pos rfl), hfree, asked_scsi]
  cases hrecv : s.scsi.recvAct with
  | true => simp
  | false =>
    have hsend : s.scsi.sendAct = true := by simpa [hrecv] using hactive
    cases hdrq : s.scsi.drq <;> simp [hsend]

end

/-- RECEIVE_BYTE with a byte queued: real DMA packs, counts and acknowledges it; pseudo-DMA latches it unless the host
has not fetched the one before. -/
theorem receiveByte_of_queued {s : State} {b : Byte} {rest : List Byte} (h : s.script.bytes = b :: rest) :
    receiveByte s =
      let e := (call s .busGetData).setScript { s.script with bytes := rest }
      if s.dma.ctl.getLsbD 0 then setHsAck true (dmaCount (dmaPack b e))
      else if s.scsi.drq then e
      else e.setScsi { s.scsi with scache := b, drq := true } := by
  have hdata : busGetData s = (b, (call s .busGetData).setScript { s.script with bytes := rest }) := by
    simp [busGetData, h]
  unfold receiveByte
  rw [hdata]
  rfl

/-- Settles O48: a tick without REQ, and a tick with REQ in the two directions. -/
theorem handshakeReleasesSendsAndPaces : Obligations.HandshakeReleasesSendsAndPaces := by
  unfold Obligations.HandshakeReleasesSendsAndPaces
  refine ⟨fun s ack rest hhs hlevels => ?release, fun s rest hsend hrecv hhs hcmd hdrq hlevels => ?send,
    fun s b restB rest hrecv hreal hhs hcmd hbytes hlevels => ?pseudo⟩
  case release =>
    rw [handshakeTick_of_not_req hlevels, if_pos hhs, setHsAck_false_eq, asked_scsi, hhs]
    refine ⟨rfl, rfl, rfl, rfl, ?calls⟩
    cases s.scsi.scmd.getLsbD 4 <;> rfl
  case send =>
    have hactive : (s.scsi.recvAct || s.scsi.sendAct) = true := by rw [hrecv, hsend]; rfl
    have htick := handshakeTick_of_req hactive hhs hcmd hlevels
    simp only [hrecv, hdrq, Bool.false_eq_true, if_false] at htick
    rw [htick, sendByte, setHsAck_true_eq, call_scsi, asked_scsi, hcmd, hhs]
    exact ⟨rfl, rfl, rfl, rfl, rfl⟩
  case pseudo =>
    have hactive : (s.scsi.recvAct || s.scsi.sendAct) = true := by rw [hrecv]; rfl
    rw [handshakeTick_of_req hactive hhs hcmd hlevels]
    dsimp only
    rw [if_pos hrecv, receiveByte_of_queued (s := asked s _ rest) hbytes]
    dsimp only
    rw [asked_dma, hreal, if_neg Bool.false_ne_true, asked_scsi]
    cases s.scsi.drq <;> exact ⟨rfl, rfl, rfl, rfl⟩

end Sys2Proof.Machine
end

section
/-! A whole real-DMA receive (45_dma_scsi_handshake.md R498): what its bytes do without the bus, the words they make, and
the ticks that take them from the bus. -/

namespace Sys2Proof.Machine

/-! ## The bytes of a real-DMA receive, without the bus (45_dma_scsi_handshake.md R497) -/

/-- What one byte does: it is packed, then counted. -/
def dmaReceive (b : Byte) (s : State) : State := dmaCount (dmaPack b s)

/-- What the bytes `bs` do, in order. -/
def dmaReceiveAll (bs : List Byte) (s : State) : State := bs.foldl (fun t b => dmaReceive b t) s

section
variable (b : Byte) (s : State)

@[simp] theorem dmaReceiveAll_nil : dmaReceiveAll [] s = s := rfl

@[simp] theorem dmaReceiveAll_cons (bs : List Byte) : dmaReceiveAll (b :: bs) s = dmaReceiveAll bs (dmaReceive b s) := rfl

theorem dmaReceiveAll_append (as bs : List Byte) :
    dmaReceiveAll (as ++ bs) s = dmaReceiveAll bs (dmaReceiveAll as s) := List.foldl_append

theorem dmaPack_traffic (c : List Call) (x : Script) :
    dmaPack b ((s.setCalls c).setScript x) = ((dmaPack b s).setCalls c).setScript x := by
  cases h : s.dma.ff with
  | false =>
    rw [dmaPack_of_low b h, dmaPack_of_low (s := (s.setCalls c).setScript x) b h]
    rfl
  | true =>
    rw [dmaPack_of_high b h, dmaPack_of_high (s := (s.setCalls c).setScript x) b h]
    rfl

theorem dmaCount_traffic (c : List Call) (x : Script) :
    dmaCount ((s.setCalls c).setScript x) = ((dmaCount s).setCalls c).setScript x := by
  obtain h | h | h := dmaSize_cases s
  · rw [dmaCount_of_zero h, dmaCount_of_zero (s := (s.setCalls c).setScript x) h]
  · rw [dmaCount_of_one h, dmaCount_of_one (s := (s.setCalls c).setScript x) h]
    rfl
  · rw [dmaCount_of_more h, dmaCount_of_more (s := (s.setCalls c).setScript x) h]
    rfl

/-- The packing neither looks at the traffic with the bus nor adds to it. -/
theorem dmaReceive_traffic (c : List Call) (x : Script) :
    dmaReceive b ((s.setCalls c).setScript x) = ((dmaReceive b s).setCalls c).setScript x := by
  rw [dmaReceive, dmaPack_traffic, dmaCount_traffic, dmaReceive]

theorem dmaReceiveAll_traffic (bs : List Byte) (c : List Call) (x : Script) :
    dmaReceiveAll bs ((s.setCalls c).setScript x) = ((dmaReceiveAll bs s).setCalls c).setScript x := by
  induction bs generalizing s with
  | nil => rfl
  | cons b bs ih => rw [dmaReceiveAll_cons, dmaReceive_traffic, ih, dmaReceiveAll_cons]

@[simp] theorem dmaReceive_kctl : (dmaReceive b s).kctl = s.kctl := by simp [dmaReceive]

@[simp] theorem dmaReceive_kram : (dmaReceive b s).kram = (dmaPack b s).kram := by simp [dmaReceive]

@[simp] theorem dmaReceive_addr : (dmaReceive b s).dma.addr = (dmaPack b s).dma.addr := by simp [dmaReceive]

@[simp] theorem dmaReceive_lo : (dmaReceive b s).dma.lo = (dmaPack b s).dma.lo := by simp [dmaReceive]

@[simp] theorem dmaReceive_ctl : (dmaReceive b s).dma.ctl = s.dma.ctl := by simp [dmaReceive]

/-- Of the SCSI latches only RECV_ACT may change. -/
theorem dmaReceive_scsi_cases :
    (dmaReceive b s).scsi = s.scsi ∨ (dmaReceive b s).scsi = { s.scsi with recvAct := false } := by
  obtain h | h | h := dmaSize_cases (dmaPack b s)
  · simp [dmaReceive, dmaCount_of_zero h]
  · simp [dmaReceive, dmaCount_of_one h, dmaFinish]
  · simp [dmaReceive, dmaCount_of_more h]

@[simp] theorem dmaReceive_hsAck : (dmaReceive b s).scsi.hsAck = s.scsi.hsAck := by
  obtain h | h := dmaReceive_scsi_cases b s <;> rw [h]

@[simp] theorem dmaReceive_scmd : (dmaReceive b s).scsi.scmd = s.scsi.scmd := by
  obtain h | h := dmaReceive_scsi_cases b s <;> rw [h]

@[simp] theorem dmaReceive_sphase : (dmaReceive b s).scsi.sphase = s.scsi.sphase := by
  obtain h | h := dmaReceive_scsi_cases b s <;> rw [h]

variable {s}

/-- A byte that is not the last leaves the transfer running. -/
theorem dmaReceive_of_more (h : 1 < s.dma.size.toNat) :
    (dmaReceive b s).dma.size.toNat + 1 = s.dma.size.toNat ∧ (dmaReceive b s).dma.ff = !s.dma.ff ∧
      (dmaReceive b s).scsi = s.scsi ∧ (dmaReceive b s).pend = s.pend := by
  obtain ⟨-, -, -, -, hmore, -⟩ := realDmaPacksAndCountsOneByte b s
  exact hmore h

/-- DMA_SIZE falls by at most one. -/
theorem dmaReceive_size_le : s.dma.size.toNat ≤ (dmaReceive b s).dma.size.toNat + 1 := by
  obtain h | h | h := dmaSize_cases s
  · simp [h]
  · simp [h]
  · obtain ⟨hsize, -⟩ := dmaReceive_of_more b h
    exact hsize.ge

/-- The last byte ends it. -/
theorem dmaReceive_of_last (h : s.dma.size.toNat = 1) :
    (dmaReceive b s).dma.size = 0 ∧ (dmaReceive b s).dma.ff = false ∧
      (dmaReceive b s).scsi = { s.scsi with recvAct := false } ∧
      (dmaReceive b s).pend = { s.pend with dma := true } := by
  obtain ⟨-, -, -, hlast, -, -⟩ := realDmaPacksAndCountsOneByte b s
  exact hlast (BitVec.eq_of_toNat_eq h)

/-- Fewer bytes than DMA_SIZE leave the transfer running. -/
theorem dmaReceiveAll_of_more {bs : List Byte} (h : bs.length < s.dma.size.toNat) :
    (dmaReceiveAll bs s).dma.size.toNat + bs.length = s.dma.size.toNat ∧ (dmaReceiveAll bs s).scsi = s.scsi ∧
      (dmaReceiveAll bs s).pend = s.pend := by
  induction bs generalizing s with
  | nil => simp
  | cons b bs ih =>
    rw [List.length_cons] at h
    obtain ⟨hsize, -, hscsi, hpend⟩ := dmaReceive_of_more b (s := s) (by omega)
    obtain ⟨hsize', hscsi', hpend'⟩ := ih (s := dmaReceive b s) (by omega)
    exact ⟨by simp; omega, hscsi'.trans hscsi, hpend'.trans hpend⟩

/-- DMA_SIZE bytes end it, with the last of them. -/
theorem dmaReceiveAll_of_last {bs : List Byte} (hne : bs ≠ []) (h : s.dma.size.toNat = bs.length) :
    (dmaReceiveAll bs s).dma.size = 0 ∧ (dmaReceiveAll bs s).dma.ff = false ∧
      (dmaReceiveAll bs s).scsi = { s.scsi with recvAct := false } ∧
      (dmaReceiveAll bs s).pend = { s.pend with dma := true } := by
  obtain ⟨init, b, rfl⟩ := List.eq_nil_or_concat' bs |>.resolve_left hne
  rw [List.length_append, List.length_singleton] at h
  obtain ⟨hsize, hscsi, hpend⟩ := dmaReceiveAll_of_more (s := s) (bs := init) (by omega)
  have hlast := dmaReceive_of_last b (s := dmaReceiveAll init s) (by omega)
  rw [hscsi, hpend] at hlast
  rwa [dmaReceiveAll_append]

end

/-! ## The words of a real-DMA receive (45_dma_scsi_handshake.md R498) -/

/-- The words that byte pairs make, the first byte of a pair its low byte. -/
def wordsOf : List Byte → List Word
  | lo :: hi :: bs => (hi ++ lo) :: wordsOf bs
  | _ => []

/-- Words written to bank `bank` from `a` on. -/
def storeWords (m : Memory) (bank : Bool) : KAddr → List Word → Memory
  | _, [] => m
  | a, w :: ws => storeWords (memWrite m bank a w) bank (a + 1) ws

theorem length_wordsOf : ∀ {n : Nat} {bs : List Byte}, bs.length = 2 * n → (wordsOf bs).length = n
  | 0, [], _ => rfl
  | n + 1, lo :: hi :: bs, h => by
    rw [wordsOf, List.length_cons, length_wordsOf (n := n)]
    simp only [List.length_cons] at h
    omega

theorem wordsOf_getD :
    ∀ (bs : List Byte) {k : Nat}, 2 * k + 1 < bs.length →
      (wordsOf bs).getD k 0 = bs.getD (2 * k + 1) 0 ++ bs.getD (2 * k) 0
  | lo :: hi :: bs, 0, _ => rfl
  | lo :: hi :: bs, k + 1, h => wordsOf_getD bs (k := k) (by simp only [List.length_cons] at h; omega)
  | [_], _, h => by simp at h

/-- The address of the next word's k-th successor. -/
theorem addr_succ (a : KAddr) (k : Nat) : a + 1 + BitVec.ofNat 18 k = a + BitVec.ofNat 18 (k + 1) := by
  rw [BitVec.add_assoc, Nat.add_comm, BitVec.ofNat_add]
  rfl

/-- Fewer than 2^18 words on, an address is another one. -/
theorem addr_ne {a : KAddr} {k : Nat} (hpos : 0 < k) (hk : k < 262144) : a ≠ a + BitVec.ofNat 18 k := by
  intro h
  have hzero := (BitVec.self_eq_add_right ..).1 h
  have := congrArg BitVec.toNat hzero
  simp at this
  omega

theorem memRead_storeWords_other {b bank : Bool} {a' : KAddr} :
    ∀ (ws : List Word) (m : Memory) (a : KAddr),
      (∀ k, k < ws.length → ¬(b = bank ∧ a' = a + BitVec.ofNat 18 k)) →
        memRead (storeWords m bank a ws) b a' = memRead m b a'
  | [], _, _, _ => rfl
  | w :: ws, m, a, h => by
    have hhead : ¬(bank = b ∧ a = a') := fun ⟨hb, ha⟩ => h 0 (Nat.zero_lt_succ _) ⟨hb.symm, by simp [ha]⟩
    rw [storeWords, memRead_storeWords_other ws, memRead_memWrite_other _ _ hhead]
    intro k hk
    rw [addr_succ]
    exact h (k + 1) (Nat.succ_lt_succ hk)

/-- Up to 2^18 words do not overwrite each other. -/
theorem memRead_storeWords {bank : Bool} :
    ∀ (ws : List Word) (m : Memory) (a : KAddr) {k : Nat}, m.wf = true → ws.length ≤ 262144 → k < ws.length →
      memRead (storeWords m bank a ws) bank (a + BitVec.ofNat 18 k) = ws.getD k 0
  | w :: ws, m, a, 0, hm, hfit, _ => by
    have hself : a + BitVec.ofNat 18 0 = a := by simp
    rw [List.length_cons] at hfit
    rw [hself, storeWords, memRead_storeWords_other ws, memRead_memWrite_same _ _ _ hm]
    · rfl
    · intro k hk
      rw [addr_succ]
      exact fun ⟨_, ha⟩ => addr_ne (Nat.succ_pos k) (by omega) ha
  | w :: ws, m, a, k + 1, hm, hfit, hk => by
    rw [List.length_cons] at hfit hk
    rw [← addr_succ, storeWords, memRead_storeWords ws _ _ (memWrite_wf _ _ _ hm) (by omega) (by omega)]
    rfl

/-- One pair of bytes is one word. -/
theorem dmaReceive_pair {lo hi : Byte} {s : State} (hsize : 2 ≤ s.dma.size.toNat) (hff : s.dma.ff = false) :
    let t := dmaReceive hi (dmaReceive lo s)
    t.kram = memWrite s.kram (bankDma s.kctl) s.dma.addr (hi ++ lo) ∧ t.dma.addr = s.dma.addr + 1 ∧
      t.dma.ff = false ∧ t.kctl = s.kctl ∧ s.dma.size.toNat ≤ t.dma.size.toNat + 2 := by
  obtain ⟨hsize₁, hff₁, -, -⟩ := dmaReceive_of_more lo hsize
  rw [hff] at hff₁
  have hhigh := dmaPack_of_high hi hff₁
  have hlow := dmaPack_of_low lo hff
  have hcounted : (dmaReceive hi (dmaReceive lo s)).dma.ff = false ∧
      (dmaReceive lo s).dma.size.toNat ≤ (dmaReceive hi (dmaReceive lo s)).dma.size.toNat + 1 := by
    obtain hlast | hmore := Nat.eq_or_lt_of_le (show 1 ≤ (dmaReceive lo s).dma.size.toNat by omega)
    · obtain ⟨-, hff₂, -, -⟩ := dmaReceive_of_last hi hlast.symm
      exact ⟨hff₂, by omega⟩
    · obtain ⟨hsize₂, hff₂, -, -⟩ := dmaReceive_of_more hi hmore
      exact ⟨by simpa [hff₁] using hff₂, by omega⟩
  obtain ⟨hff₂, hsize₂⟩ := hcounted
  exact ⟨by simp [hhigh, hlow, dmaWord], by simp [hhigh, hlow, dmaWord], hff₂, by simp, by omega⟩

/-- A whole number of pairs, received from an even byte on, is stored as their words. -/
theorem dmaReceiveAll_words {n : Nat} {bs : List Byte} {s : State} (hlength : bs.length = 2 * n)
    (hsize : bs.length ≤ s.dma.size.toNat) (hff : s.dma.ff = false) :
    (dmaReceiveAll bs s).kram = storeWords s.kram (bankDma s.kctl) s.dma.addr (wordsOf bs) ∧
      (dmaReceiveAll bs s).dma.addr = s.dma.addr + BitVec.ofNat 18 n := by
  induction n generalizing bs s with
  | zero =>
    obtain rfl := List.length_eq_zero_iff.1 hlength
    simp [wordsOf, storeWords]
  | succ n ih =>
    obtain ⟨lo, hi, bs, rfl⟩ : ∃ lo hi bs', bs = lo :: hi :: bs' := by
      match bs, hlength with
      | lo :: hi :: bs', _ => exact ⟨lo, hi, bs', rfl⟩
    simp only [List.length_cons] at hlength hsize
    obtain ⟨hkram, haddr, hff', hkctl, hsize'⟩ := dmaReceive_pair (lo := lo) (hi := hi) (s := s) (by omega) hff
    have hrest := ih (bs := bs) (by omega) (by omega) hff'
    rw [hkram, haddr, hkctl, addr_succ] at hrest
    rwa [dmaReceiveAll_cons, dmaReceiveAll_cons, wordsOf, storeWords]

/-! ## The receive over the bus (45_dma_scsi_handshake.md R490, R493, R495, R498) -/

/-- The levels of a bus that offers one byte in the phase `p` and then releases REQ: REQ, ACK, MSG, C/D and I/O for the
tick that takes it, REQ and ACK for the tick after it. -/
def offerLevels (p : Byte) : List Bool := [true, false, p.getLsbD 2, p.getLsbD 1, p.getLsbD 0, false, true]

/-- A real-DMA receive, between two bytes, over a bus that offers the bytes `bs` next; DMA_SIZE counts them all. -/
structure Offered (s : State) (bs : List Byte) : Prop where
  real : s.dma.ctl.getLsbD 0 = true
  recvAct : bs ≠ [] → s.scsi.recvAct = true
  hsAck : s.scsi.hsAck = false
  scmd : s.scsi.scmd.getLsbD 4 = false
  size : bs.length ≤ s.dma.size.toNat
  bytes : bs <+: s.script.bytes
  levels : (List.replicate bs.length (offerLevels s.scsi.sphase)).flatten <+: s.script.levels

section
variable {s : State} {b : Byte} {bs : List Byte}

/-- The queues of a bus that offers a byte, taken apart. -/
theorem Offered.cons (h : Offered s (b :: bs)) :
    ∃ (restB : List Byte) (restL : List Bool), s.script.bytes = b :: restB ∧ bs <+: restB ∧
      s.script.levels = offerLevels s.scsi.sphase ++ restL ∧
      (List.replicate bs.length (offerLevels s.scsi.sphase)).flatten <+: restL := by
  obtain ⟨restB, hbytes⟩ := h.bytes
  obtain ⟨restL, hlevels⟩ := h.levels
  rw [List.length_cons, List.replicate_succ, List.flatten_cons, List.append_assoc] at hlevels
  exact ⟨bs ++ restB, _, hbytes.symm, List.prefix_append .., hlevels.symm, List.prefix_append ..⟩

/-- The tick that takes a byte: it is packed and counted, and ACK asserted. -/
theorem Offered.tick {restB : List Byte} {restL : List Bool} (h : Offered s (b :: bs))
    (hbytes : s.script.bytes = b :: restB) (hlevels : s.script.levels = offerLevels s.scsi.sphase ++ restL) :
    ∃ (c : List Call) (x : Script), x.bytes = restB ∧ x.levels = [false, true] ++ restL ∧
      handshakeTick s = setHsAck true (((dmaReceive b s).setCalls c).setScript x) := by
  have hrecv := h.recvAct (List.cons_ne_nil b bs)
  have hactive : (s.scsi.recvAct || s.scsi.sendAct) = true := by rw [hrecv]; rfl
  rw [handshakeTick_of_req (rest := [false, true] ++ restL) hactive h.hsAck h.scmd hlevels]
  dsimp only
  rw [if_pos hrecv, receiveByte_of_queued (s := asked s _ ([false, true] ++ restL)) hbytes]
  dsimp only
  rw [asked_dma, if_pos h.real]
  refine ⟨_, _, ?_, ?_, congrArg (setHsAck true) (dmaReceive_traffic b s _ _)⟩
  all_goals rfl

/-- The tick after it, with REQ released: the ACK that the block asserted is gone again. -/
theorem handshakeTick_setHsAck {t : State} {ack : Bool} {rest : List Bool} (hhs : t.scsi.hsAck = false)
    (hlevels : t.script.levels = false :: ack :: rest) :
    ∃ c : List Call, handshakeTick (setHsAck true t) = (t.setCalls c).setScript { t.script with levels := rest } := by
  have hreleased : { t.scsi with hsAck := false } = t.scsi := by rw [← hhs]
  have htick := handshakeTick_of_not_req (s := setHsAck true t) (by rw [setHsAck_script, hlevels])
  refine ⟨(handshakeTick (setHsAck true t)).calls, ?_⟩
  calc handshakeTick (setHsAck true t)
    _ = ((t.setScsi { t.scsi with hsAck := false }).setCalls (handshakeTick (setHsAck true t)).calls).setScript
          { t.script with levels := rest } := by
      rw [htick, setHsAck_scsi, if_pos rfl, setHsAck_eq, setHsAck_eq]
      rfl
    _ = _ := by
      rw [hreleased]
      rfl

/-- The two ticks of a byte: packed and counted, and the rest of the bytes offered as before. -/
theorem Offered.byteTicks (h : Offered s (b :: bs)) :
    ∃ (c : List Call) (x : Script),
      handshakeTick^[2] s = ((dmaReceive b s).setCalls c).setScript x ∧ Offered (handshakeTick^[2] s) bs := by
  obtain ⟨restB, restL, hbytes, hrestB, hlevels, hrestL⟩ := h.cons
  obtain ⟨c, x, hx, hxl, htick⟩ := h.tick hbytes hlevels
  obtain ⟨c', hrelease⟩ := handshakeTick_setHsAck (t := ((dmaReceive b s).setCalls c).setScript x)
    (by simpa using h.hsAck) hxl
  have hticks : handshakeTick^[2] s = ((dmaReceive b s).setCalls c').setScript { x with levels := restL } := by
    rw [Function.iterate_succ_apply, htick, Function.iterate_one, hrelease]
    rfl
  refine ⟨c', _, hticks, ?_⟩
  rw [hticks]
  have hsize := h.size
  have hcount := dmaReceive_size_le b (s := s)
  rw [List.length_cons] at hsize
  constructor
  case real => simpa using h.real
  case recvAct =>
    intro hne
    have hpos := List.length_pos_iff.2 hne
    obtain ⟨-, -, hsame, -⟩ := dmaReceive_of_more b (s := s) (by omega)
    simpa [hsame] using h.recvAct (List.cons_ne_nil b bs)
  case hsAck => simpa using h.hsAck
  case scmd => simpa using h.scmd
  case size =>
    simp only [State.setScript_dma, State.setCalls_dma]
    omega
  case bytes => simpa [hx] using hrestB
  case levels => simpa using hrestL

/-- The ticks of some of the bytes offered. -/
theorem Offered.ticks {as : List Byte} (h : Offered s (as ++ bs)) :
    ∃ (c : List Call) (x : Script),
      handshakeTick^[2 * as.length] s = ((dmaReceiveAll as s).setCalls c).setScript x ∧
        Offered (handshakeTick^[2 * as.length] s) bs := by
  induction as generalizing s with
  | nil => exact ⟨s.calls, s.script, rfl, h⟩
  | cons a as ih =>
    obtain ⟨c, x, hbyte, hoffered⟩ := h.byteTicks
    obtain ⟨c', x', hticks, hrest⟩ := ih hoffered
    have hsplit : handshakeTick^[2 * (a :: as).length] s = handshakeTick^[2 * as.length] (handshakeTick^[2] s) := by
      rw [← Function.iterate_add_apply, List.length_cons, Nat.mul_succ]
    rw [hsplit]
    refine ⟨c', x', ?_, hrest⟩
    rw [hticks, hbyte, dmaReceiveAll_traffic, dmaReceiveAll_cons]
    rfl

/-- After any number of ticks the pending flags are those that the bytes taken so far leave. -/
theorem Offered.pend (h : Offered s bs) {j : Nat} (hj : j ≤ 2 * bs.length) :
    (handshakeTick^[j] s).pend = (dmaReceiveAll (bs.take ((j + 1) / 2)) s).pend := by
  obtain ⟨i, hi⟩ := Nat.even_or_odd' j
  have hlength : (bs.take i).length = i := List.length_take_of_le (by omega)
  have hsplit : Offered s (bs.take i ++ bs.drop i) := by rwa [List.take_append_drop]
  obtain ⟨c, x, hticks, hrest⟩ := hsplit.ticks
  rw [hlength] at hticks hrest
  obtain rfl | rfl := hi
  · have hhalf : (2 * i + 1) / 2 = i := by omega
    rw [hhalf, hticks]
    rfl
  · have hhalf : (2 * i + 1 + 1) / 2 = i + 1 := by omega
    have hlt : i < bs.length := by omega
    rw [List.drop_eq_getElem_cons hlt] at hrest
    obtain ⟨restB, restL, hbytes, -, hlevels, -⟩ := hrest.cons
    obtain ⟨c', x', -, -, htick⟩ := hrest.tick hbytes hlevels
    rw [Function.iterate_succ_apply', htick, setHsAck_pend, hticks, dmaReceive_traffic, hhalf,
      List.take_succ_eq_append_getElem hlt, dmaReceiveAll_append]
    rfl

end

/-- Settles O47: the ticks are the bytes' packing, byte by byte, and the bytes are stored as their words. -/
theorem realDmaReceiveWritesNWords : Obligations.RealDmaReceiveWritesNWords := by
  unfold Obligations.RealDmaReceiveWritesNWords
  intro s n bytes restB restL hpos hfit hlength hsize hff hreal hrecv hhs hcmd hkram hbytes hlevels
  have hoffered : Offered s bytes :=
    { real := hreal, recvAct := fun _ => hrecv, hsAck := hhs, scmd := hcmd, size := by omega
      bytes := ⟨restB, hbytes.symm⟩
      levels := ⟨restL, by rw [hlevels, hlength]; rfl⟩ }
  have hne : bytes ≠ [] := List.length_pos_iff.1 (by omega)
  have hall : Offered s (bytes ++ []) := by rwa [List.append_nil]
  obtain ⟨c, x, hticks, hdone⟩ := hall.ticks
  have hfour : 2 * bytes.length = 4 * n := by omega
  rw [hfour] at hticks hdone
  obtain ⟨hsize', hff', hscsi', hpend'⟩ := dmaReceiveAll_of_last (s := s) hne (by omega)
  obtain ⟨hwords, haddr⟩ := dmaReceiveAll_words (s := s) hlength (by omega) hff
  have hcount := length_wordsOf hlength
  have hkram' : (handshakeTick^[4 * n] s).kram = storeWords s.kram (bankDma s.kctl) s.dma.addr (wordsOf bytes) := by
    rw [hticks]
    exact hwords
  have hlast : bytes.take ((4 * n - 1 + 1) / 2) = bytes := List.take_of_length_le (by omega)
  refine ⟨?size, ?addr, ?stopped, hdone.hsAck, ?ff, ?pend, fun k hk => ?words, fun b a hother => ?others, ?completed,
    fun j hj => ?before⟩
  case size => rw [hticks]; exact hsize'
  case addr => rw [hticks]; exact haddr
  case stopped => rw [hticks]; exact congrArg Scsi.recvAct hscsi'
  case ff => rw [hticks]; exact hff'
  case pend => rw [hticks]; exact hpend'
  case words =>
    rw [hkram', ← wordsOf_getD bytes (by omega)]
    exact memRead_storeWords _ _ _ hkram (by omega) (by omega)
  case others =>
    rw [hkram']
    exact memRead_storeWords_other _ _ _ fun k hk => hother k (by omega)
  case completed => rw [hoffered.pend (by omega), hlast, hpend']
  case before =>
    obtain ⟨-, -, hpend⟩ := dmaReceiveAll_of_more (s := s) (bs := bytes.take ((j + 1) / 2))
      (by rw [List.length_take]; omega)
    rw [hoffered.pend (by omega), hpend]

end Sys2Proof.Machine
end

section
/-! The host operations: which requests a step performs and which it refuses, PLAYFETCH, SAVE, and the snapshots that
RESTORE stores unchanged (46_host_operations.md R530 to R541). -/

namespace Sys2Proof.Machine

/-! ## Catching up (46_host_operations.md R530, R537) -/

section
variable {r : Request} {s s1 : State} {t : Nat}

theorem catchUp_of_untimed (h : requestTime r = none) : catchUp r s = .ok s := by simp only [catchUp, h]

theorem catchUp_of_le (h : requestTime r = some t) (hle : s.timing.now ≤ t) :
    catchUp r s = .ok (runClocks (t - s.timing.now) s) := by
  simp only [catchUp, h, if_neg (Nat.not_lt.2 hle)]

theorem catchUp_of_lt (h : requestTime r = some t) (hlt : t < s.timing.now) :
    catchUp r s = .error (.timestampBeforeNow t s.timing.now) := by
  simp only [catchUp, h, if_pos hlt]

/-! ## A step, request by request (46_host_operations.md R530, R537) -/

theorem perform_of_exec {i : Instr} {u : State} (hcatch : catchUp r s = .ok s1)
    (hdecode : decode (requestKey s1 r) (requestArgs r) = .ok i) (hexec : exec i s1 = .next u) :
    perform r s = .next (narrowReply r u) := by
  simp only [perform, hcatch, hdecode, hexec, finishRequest]

theorem perform_of_stale (h : requestTime r = some t) (hlt : t < s.timing.now) :
    perform r s = .refused (.timestampBeforeNow t s.timing.now) := by
  simp only [perform, catchUp_of_lt h hlt]

/-- A key of CMD 7..15 is no row's, so the request is refused by its command (30_encoding.md R152). -/
theorem perform_reserved (j : Fin 9) : perform (.reserved j) s = .refused (.reservedRequest (reservedCmd j)) := by
  have hcmd : keyCmd (requestKey s (.reserved j)) = reservedCmd j := by
    rw [requestKey, hostKey, keyCmd_mkKey]
  have hlarge : 7 ≤ (keyCmd (requestKey s (.reserved j))).toNat := by
    rw [hcmd, reservedCmd, BitVec.toNat_ofNat]
    omega
  simp only [perform, catchUp_of_untimed (r := .reserved j) rfl, decode_reserved _ hlarge, decodeRefusal, hcmd]

theorem step_of_requests_nil (h : s.requests = []) : step s = .next s := by simp only [step, h]

theorem step_of_requests_cons {rest : List Request} (h : s.requests = r :: rest) :
    step s = perform r (s.setRequests rest) := by
  simp only [step, h]

end

/-- Settles O5: a step is `perform` of the first waiting request, whose three stages the premises name. -/
theorem stepRunsTheDecodedInstruction : Obligations.StepRunsTheDecodedInstruction := by
  unfold Obligations.StepRunsTheDecodedInstruction
  refine ⟨fun s s1 t r rest i hq hcatch hdecode _ hexec => ?_, fun s t a size => catchUp_of_le rfl,
    fun s t a size v => catchUp_of_le rfl, fun s r => catchUp_of_untimed, fun s => step_of_requests_nil⟩
  exact (step_of_requests_cons hq).trans (perform_of_exec hcatch hdecode hexec)

/-- Settles O6: the catch-up refuses a timestamp before NOW, the decoder a reserved command. -/
theorem staleAndReservedRequestsAreRefused : Obligations.StaleAndReservedRequestsAreRefused := by
  unfold Obligations.StaleAndReservedRequestsAreRefused
  refine ⟨fun s rest t a size hq hlt => ?_, fun s rest t a size v hq hlt => ?_, fun s rest j hq => ?_⟩
  · exact (step_of_requests_cons hq).trans (perform_of_stale rfl hlt)
  · exact (step_of_requests_cons hq).trans (perform_of_stale rfl hlt)
  · exact (step_of_requests_cons hq).trans (perform_reserved j)

/-! ## PLAYFETCH (46_host_operations.md R541) -/

section
variable {s : State} {c : Channel}

theorem completes_playfetch_of_stopped (h : playRunning s.play c = false) : Completes (.playfetch c) s (.word 0) s :=
  completes_of_answer (if_neg (Bool.eq_false_iff.1 h))

theorem completes_playfetch_of_running (h : playRunning s.play c = true) :
    Completes (.playfetch c) s (.word (memRead s.kram (bankPlay s.kctl) (playAddr s.play c)))
      (s.setPlay (playAdvance s.play c)) :=
  completes_of_answer (if_pos h)

end

/-- Settles O33: a channel whose RUN bit is 0 answers 0, a running one its next sample, and advances. -/
theorem playFetchTakesTheNextSample : Obligations.PlayFetchTakesTheNextSample := by
  unfold Obligations.PlayFetchTakesTheNextSample
  intro s
  exact ⟨completes_playfetch_of_stopped (c := .ch0), completes_playfetch_of_stopped (c := .ch1),
    completes_playfetch_of_running (c := .ch0), completes_playfetch_of_running (c := .ch1)⟩

/-! ## SAVE and RESTORE as outcomes (46_host_operations.md R533) -/

theorem exec_save (s : State) : exec .save s = .next (reevalIrq (s.setReply (.snapshot s.toSnapshot))) := rfl

theorem exec_restore (x : Snapshot) (s : State) :
    exec (.restore x) s = .next (reevalIrq ((doRestore x s).setReply .nothing)) := complete_eq _

/-- Settles O37: SAVE answers the stored fields, and re-evaluates IRQ as every request does. -/
theorem saveReturnsEveryStoredField : Obligations.SaveReturnsEveryStoredField := by
  unfold Obligations.SaveReturnsEveryStoredField
  intro s
  exact (completes_iff ..).2 (exec_save s)

/-! ## Fields that RESTORE stores as they are (46_host_operations.md R534, R535) -/

theorem clampLine_of_lt {pmode : Word} {l : BitVec 9} (h : l.toNat < lineCount pmode) : clampLine pmode l = l := by
  apply BitVec.eq_of_toNat_eq
  rw [clampLine_toNat]
  omega

theorem clampNat_of_le {x lo hi : Nat} (hlo : lo ≤ x) (hhi : x ≤ hi) : clampNat x lo hi = x := by
  rw [clampNat, max_eq_left hlo, min_eq_left hhi]

theorem clampTiming_of_inRange {c : Params} {pmode : Word} {t : Timing} (hraster : t.raster.toNat < lineCount pmode)
    (hhcnt : 1 ≤ t.hcnt) (hhcntLe : t.hcnt ≤ c.duration t.hphase (dotClock pmode) (line263 pmode))
    (hhscnt : 1 ≤ t.hscnt) (hhscntLe : t.hscnt ≤ c.hsEvery) (hdivrem : t.divrem < c.divOf (dotClock pmode)) :
    clampTiming c pmode t = t := by
  rw [clampTiming, clampLine_of_lt hraster, clampNat_of_le hhcnt hhcntLe, clampNat_of_le hhscnt hhscntLe,
    Nat.mod_eq_of_lt hdivrem]

theorem fitTiles_of_length {c : Params} {row : List TileEntry} (h : row.length = c.wMax) : fitTiles c row = row := by
  rw [fitTiles, ← h, List.take_left]

theorem fitLine_of_proper {c : Params} {l : LineBufs} (h : LineProper c l) (htpos : l.tpos ≤ c.wMax) :
    fitLine c l = l := by
  obtain ⟨htiles, hovl, hbg0, hbg1, hbg2, hbg3⟩ := h
  rw [fitLine, fitRows, fitTiles_of_length htiles, fitRow_of_proper hovl, fitRow_of_proper hbg0,
    fitRow_of_proper hbg1, fitRow_of_proper hbg2, fitRow_of_proper hbg3, min_eq_left htpos]

/-- A line before all stored ones is put in front of them. -/
theorem rowsPut_of_lt {n : Nat} {row : List Rgb24} {rows : List OutRow} (h : ∀ q ∈ rows, n < q.1) :
    rowsPut n row rows = (n, row) :: rows := by
  cases rows with
  | nil => rfl
  | cons r rest => exact if_pos (h r List.mem_cons_self)

theorem canonicalRows_of_rowsBelow {c : Params} {rows : List OutRow} (h : RowsBelow c.visibleLines rows) :
    canonicalRows c rows = rows := by
  induction rows with
  | nil => rfl
  | cons r rest ih =>
    obtain ⟨⟨hvisible, hlt⟩, hrest⟩ := rowsBelow_cons.1 h
    rw [canonicalRows, if_pos hvisible, ih hrest, rowsPut_of_lt hlt]

/-- Every index of the cache is an entry's or its mirror's (10_state.md R35). -/
theorem exists_entry_or_mirror (j : BitVec 10) : ∃ i : BitVec 9, j = i.setWidth 10 ∨ j = i.setWidth 10 + 512#10 := by
  refine ⟨j.setWidth 9, ?_⟩
  by_cases h : j.toNat < 512
  · exact .inl (by bv_omega)
  · exact .inr (by bv_omega)

theorem eq_of_pcacheGet_eq {q q' : Vector Yuv24 1024} (h : ∀ j, pcacheGet q j = pcacheGet q' j) : q = q' := by
  refine Vector.ext fun k hk => ?_
  have hindex : (BitVec.ofNat 10 k).toNat = k := by rw [BitVec.toNat_ofNat, Nat.mod_eq_of_lt hk]
  simpa only [pcacheGet, hindex] using h (BitVec.ofNat 10 k)

/-- A palette has one mirror, so RESTORE re-derives the live cache (43_palette_yuv.md R413). -/
theorem pcacheOf_of_mirrored {s : State} (h : PaletteMirrored s) : pcacheOf s.palette.pal = s.pcache := by
  refine eq_of_pcacheGet_eq fun j => ?_
  obtain ⟨i, hj⟩ := exists_entry_or_mirror j
  obtain ⟨hentry, hmirror⟩ := h i
  obtain rfl | rfl := hj
  · exact (pcacheGet_pcacheOf_low ..).trans hentry.symm
  · exact (pcacheGet_pcacheOf_high ..).trans hmirror.symm

/-- The snapshot of a state whose fields are in their ranges is one that RESTORE stores unchanged. -/
theorem sanitize_toSnapshot {s : State} (hmasks : MasksHold s) (hkram : KramCanonical s) (hbuffers : BuffersProper s)
    (hrows : RowsSorted s) (htiming : clampTiming s.cfg s.pic.pmode s.timing = s.timing)
    (hline : s.rc.line.toNat < lineCount s.pic.pmode) (htpos : s.line.tpos ≤ s.cfg.wMax) :
    sanitize s.cfg s.toSnapshot = s.toSnapshot := by
  obtain ⟨hpic, hrcPic, hscsi, hdma, hplay, hovl, hmp, hpage⟩ := hmasks
  simp only [sanitize, hpic, htiming, hrcPic, clampLine_of_lt hline, hscsi, hdma, hplay, hovl, hmp, hpage,
    Memory.canonical_of_wf hkram, fitLine_of_proper ((buffersProper_iff s).1 hbuffers) htpos,
    canonicalRows_of_rowsBelow ((rowsSorted_iff s).1 hrows)]

/-- Settles O39: the snapshot is stored unchanged, and what is derived from it is what the state had derived. -/
theorem saveThenRestoreIsLossless : Obligations.SaveThenRestoreIsLossless := by
  unfold Obligations.SaveThenRestoreIsLossless
  intro s hmasks hmirror hranks hkram hbuffers hrows hraster hline hhcnt hhcntLe hhscnt hhscntLe hdivrem htpos
  have htiming := clampTiming_of_inRange hraster hhcnt hhcntLe hhscnt hhscntLe hdivrem
  have hstored := sanitize_toSnapshot hmasks hkram hbuffers hrows htiming hline htpos
  have hcache := pcacheOf_of_mirrored hmirror
  have hrank : resolveRanks (maskPic s.rc.pic) = s.rcd.rank := by
    obtain ⟨-, hrcPic, -⟩ := hmasks
    rw [hrcPic]
    exact hranks.symm
  refine ⟨s.toSnapshot, _, _, exec_save s, reevalIrq_reply _, exec_restore _ _, ?stored, ?cache, ?rank,
    fun hlatched => ?derived⟩
  case stored => simpa using hstored
  case cache => simpa using hcache
  case rank => simpa using hrank
  case derived => simp [hcache, hrank, ← hlatched]

end Sys2Proof.Machine
end

section
/-! RESET: the state it leaves, and that the state after reset meets every invariant (70_reset_and_hazards.md R590 to
R592). -/

namespace Sys2Proof.Machine

/-! ## RESET as an outcome (46_host_operations.md R538; 60_exceptions.md R551) -/

/-- A re-evaluation changes nothing where the host already knows the level (60_exceptions.md R551). -/
theorem reevalIrq_of_irqTold {s : State} (h : IrqTold s) : reevalIrq s = s := if_pos h.symm

/-- RESET leaves no condition pending and tells the host the level 0 (70_reset_and_hazards.md R590). -/
theorem irqTold_doReset (t : Nat) (s : State) : IrqTold (doReset t s) := by
  show false = irqLevel (doReset t s)
  simp only [irqLevel, doReset_toSnapshot, Snapshot.cleared]
  decide

/-- RESET has told the level itself, so completing it makes no further call. -/
theorem exec_reset (t : Nat) (s : State) : exec (.reset t) s = .next ((doReset t s).setReply .nothing) :=
  (complete_eq _).trans (congrArg _ (reevalIrq_of_irqTold (irqTold_doReset t s)))

/-- The draw of the next event and the deasserted outputs, in this order, are the only traffic of RESET (log 23). -/
theorem doReset_traffic (t : Nat) (s : State) :
    (∃ next : Option Nat, Answered s.script.nextEvents [next] ∧ (doReset t s).extcnt = next.map (max 1)) ∧
      (doReset t s).script = { s.script with nextEvents := s.script.nextEvents.drop 1 } ∧
      (doReset t s).calls = resetCalls ++ .busNextEvent :: s.calls := by
  obtain ⟨next, hqueue, hnext, hstate⟩ := busNextEvent_spec s
  exact ⟨⟨next, hqueue, hnext⟩, congrArg State.script hstate, congrArg (fun u : State => resetCalls ++ u.calls) hstate⟩

/-! ## Tables of zeros (70_reset_and_hazards.md R590) -/

theorem palGet_zero (i : BitVec 9) : palGet Palette.zero.pal i = 0 := Vector.getElem_replicate ..

theorem mprogGet_zero (i : BitVec 4) : mprogGet Micro.zero.prog i = 0 := Vector.getElem_replicate ..

theorem rank_zero (l : Layer) : rank Ranks.zero l = 0 := by cases l <;> rfl

/-- Settles O36: the stored fields are those of `Snapshot.cleared`, and the traffic is one draw and the calls of
RESET. -/
theorem resetLeavesTheResetState : Obligations.ResetLeavesTheResetState := by
  unfold Obligations.ResetLeavesTheResetState
  intro t s
  obtain ⟨hextcnt, hscript, hcalls⟩ := doReset_traffic t s
  have hstored : ((doReset t s).setReply .nothing).toSnapshot = Snapshot.cleared s.cfg s.kram t := doReset_toSnapshot t s
  refine ⟨_, exec_reset t s, ?_⟩
  rw [hstored]
  exact ⟨rfl, rfl, rfl, palGet_zero, rfl, rfl, pcacheGet_pcacheZero, pcacheGet_pcacheZero, rank_zero,
    rfl, rfl, rfl, rfl, rfl, rfl, rfl, rfl, rfl, mprogGet_zero, rfl, rfl, rfl, rfl, rfl, rfl, rfl, rfl, rfl, rfl, rfl, rfl,
    hextcnt, rfl, rfl, rfl, doReset_cfg t s, doReset_requests t s, hscript, hcalls⟩

/-! ## The state after reset (70_reset_and_hazards.md R590, R592) -/

/-- The state after reset is what RESET(0) leaves when no call has been made before it. -/
theorem afterReset_eq_doReset (c : Params) : State.afterReset c = doReset 0 ((State.afterReset c).setCalls []) := rfl

/-- KRAM_INIT is stored in canonical form (70_reset_and_hazards.md R592; log 7). -/
theorem kramCanonical_afterReset (c : Params) : KramCanonical (State.afterReset c) := Memory.wf_canonical c.kramInit

theorem paletteMirrored_doReset (t : Nat) (s : State) : PaletteMirrored (doReset t s) :=
  (paletteMirrored_iff _).2 entryMirrored_zero

/-- Settles O55: KRAM_INIT is stored in canonical form, and RESET establishes every other invariant. -/
theorem resetMeetsEveryInvariant : Obligations.ResetMeetsEveryInvariant := by
  unfold Obligations.ResetMeetsEveryInvariant State.reset
  refine ⟨kramCanonical_afterReset _, ?_⟩
  rw [afterReset_eq_doReset]
  obtain ⟨hbuffers, hrows, hranks⟩ := displayProper_doReset 0 ((State.afterReset Config.params).setCalls [])
  exact ⟨paletteMirrored_doReset _ _, masksHold_cleared _ _ _ _ (doReset_toSnapshot _ _), countersHold_doReset _ _,
    hbuffers, hrows, hranks, irqTold_doReset _ _⟩

end Sys2Proof.Machine
end
